-- ==== Sys2Proof/Word.lean ====
section
/-!
DEFINITION. The words of the WJ-40: bytes, the 32-byte cells the journal is counted in, the 64-byte lines of
the array (00_scope.md, "Terms used in this manual"). Byte k of a line is bits 8k to 8k+7 (13_formats.md: least
significant byte first in the array, byte 0 of a line is the lowest byte of word 0).
-/
namespace Sys2Proof

/-- 8 bits. -/
abbrev Byte := BitVec 8

/-- A cell: 32 bytes, half a line. -/
abbrev CellData := BitVec 256

/-- A line: 64 bytes, 16 words of 32 bits, word w in bits 32w to 32w + 31. -/
abbrev LineData := BitVec 512

end Sys2Proof
end

