-- ==== Sys2Proof/Config.lean ====
section
/-!
DEFINITION. The fixed quantities of the WJ-40 (00_scope.md Table 3) and the one value the manual leaves open.
-/
namespace Sys2Proof.Config

/-- Places in a request queue (R147). -/
def queuePlaces : Nat := 8

/-- Begun and unfinished requests of a port, at most (R150). -/
def window : Nat := 4

/-- Deepest scope level of a port (R1). -/
def maxLevel : Nat := 4

/-- Entries in use from which an allocation latches CLAIMHIGH (R26). -/
def claimHigh : Nat := 224

/-- The journal reserve in cells (R49, R58). -/
def journalReserve : Nat := 9

/-- Lines 0 to 3 are the anchor area (R68). -/
def anchorLines : Nat := 4

/-- Largest array line count, 2^26 (R65). -/
def maxArrayLines : Nat := 67108864

/-- Shortest and longest journal in lines (R41). -/
def minJournalLines : Nat := 256
def maxJournalLines : Nat := 262144

/-- Array timeout until a copy is loaded, 500 µs, in units of 10 µs (R126, R155). -/
def resetTimeout : BitVec 8 := 50#8

/-- Format marker of an anchor copy (Table 13-3). -/
def formatMarker : BitVec 32 := 0x4B574A40#32

/-- FREE VALUE. When the part enters STOPPING, responses that one port forms at that moment by the halting of its
queue (R141) and by the stopping of its begun work (R63, R109) may be placed on its path in either order (R151:
"When two responses are formed at the same moment, either may be placed first"). Applied to a counter in State;
nothing can evaluate it. Log entry 7. -/
opaque haltQueueFirst : Nat → Bool

end Sys2Proof.Config
end

