-- ==== Sys2Proof/Syntax.lean ====
section
/-!
DEFINITION. The commands of the WJ-40: one constructor for each row of spec/opcode_table.json. The table gives no
operands; they are what the event carries in the text of the rule the row names.
-/
namespace Sys2Proof

/-- The two host ports. -/
inductive Port where
  | p0
  | p1
deriving DecidableEq, Repr

/-- The other port. -/
def Port.other : Port → Port
  | .p0 => .p1
  | .p1 => .p0

/-- Port numbers 0 and 1. -/
def Port.num : Port → Nat
  | .p0 => 0
  | .p1 => 1

/-- A host request as the request channel carries it, whole (Table 13-4). -/
structure Request where
  /-- 0 READ, 1 WRITE, 2 MARK, 3 treated as MARK (R174) -/
  kind : BitVec 2
  tag : BitVec 3
  line : BitVec 26
  startWord : BitVec 4
  /-- word count minus 1 -/
  countField : BitVec 4
  /-- bit 4w + b enables byte b of word w -/
  enables : BitVec 64
  data : LineData
  /-- 0 OPEN, 1 CLOSE, 2 ABANDON, 3 none -/
  marker : BitVec 2
  level : BitVec 3
deriving DecidableEq, Repr

/-- Where the selection of a frame that has ended lies among the events before its end (R161: the state byte carries the
slot "as they stand at selection"; a frame cut by a reset is not taken). Log entry 6. -/
inductive Selection where
  /-- the slot has stayed as it was at the selection -/
  | current
  /-- the work of the command in the slot ended after the selection, before the frame check was clocked in -/
  | beforeReply
  /-- the work of the command in the slot ended after the frame check was clocked in -/
  | checkedBeforeReply
  /-- the part was reset after the selection -/
  | beforeReset
deriving DecidableEq, Repr

/-- A whole management command frame without its command code (R161): when it was selected, the exchange number, the
payload, how many whole bytes the software clocks after the frame check before it deselects, and whether the deselection
comes inside a byte more. -/
structure Frame where
  selected : Selection
  exchange : BitVec 4
  payload : List Byte
  extra : Nat
  partByte : Bool
deriving DecidableEq, Repr

/-- A frame that is cut short (R163): when it was selected, and how many bytes were clocked, or begun. -/
structure CutFrame where
  selected : Selection
  clocked : Nat
deriving DecidableEq, Repr

/-- The commands: the rows of spec/opcode_table.json, in the table's order (`openMark` is the row OPEN, `closeMark`
CLOSE, `abandonMark` ABANDON, `badCheck` BADCHECK, `unknown` UNKNOWN). -/
inductive Instr where
  | powerOn
  | prstAssert
  | prstRelease
  | pwrwarnAssert
  | pwrwarnRelease
  | hrstAssert (port : Port)
  | hrstRelease (port : Port)
  | requestTaken (port : Port) (request : Request)
  | responseTaken (port : Port)
  | readBegin (port : Port)
  | readHazardClear (port : Port) (line : BitVec 26)
  | writeBegin (port : Port)
  | openMark (port : Port)
  | closeMark (port : Port)
  | abandonMark (port : Port)
  | accessGrant
  | arrayAnswer (number : BitVec 4) (ok : Bool) (data : LineData)
  | arrayResponseTimeout
  | takeAppendItem
  | heldItemRetake
  | scopeAgeExpiry (port : Port)
  | forcedAbandonWaitEnd (port : Port)
  | rollbackJobTake
  | anchorUpdateBegin
  | safeEntry
  | formatCopyWrite
  | frameWhileWorking (clocked : Nat)
  | frameCutShort (frame : CutFrame)
  | badCheck (frame : Frame)
  | unknown (code : Byte) (frame : Frame)
  | fetchReply (frame : Frame)
  | getState (frame : Frame)
  | getScope (frame : Frame)
  | getClaims (frame : Frame)
  | getRegion (frame : Frame)
  | getJournal (frame : Frame)
  | getAlerts (frame : Frame)
  | getCounters (frame : Frame)
  | ackAlerts (frame : Frame)
  | setAlertMask (frame : Frame)
  | clearCounters (frame : Frame)
  | setRegion (frame : Frame)
  | setDefaultMode (frame : Frame)
  | setTimer (frame : Frame)
  | setArrayTimeout (frame : Frame)
  | syncAnchor (frame : Frame)
  | formatJournal (frame : Frame)
  | forceAbandon (frame : Frame)
  | resetPart (frame : Frame)
  | markKindNone (port : Port)
deriving DecidableEq, Repr

end Sys2Proof
end

