-- ==== Sys2Proof/Machine/State.lean ====
section
/-!
DEFINITION. The state of the WJ-40: every register, table, queue, mode and line the manual gives the part, block by
block (00_scope.md Table 2), as plain data, and the queue of the commands that wait. The last definition is the state
right after reset.
-/
namespace Sys2Proof.Machine

/-- One value for each host port. -/
structure PerPort (α : Type) where
  p0 : α
  p1 : α
deriving DecidableEq, Repr

/-- The value of port p. -/
def PerPort.get {α : Type} (x : PerPort α) : Port → α
  | .p0 => x.p0
  | .p1 => x.p1

/-- The values with that of port p replaced. -/
def PerPort.set {α : Type} (x : PerPort α) (p : Port) (v : α) : PerPort α :=
  match p with
  | .p0 => ⟨v, x.p1⟩
  | .p1 => ⟨x.p0, v⟩

/-! ## Part control -/

/-- Part states (R124, R140, Table 13-7). -/
inductive PartState where
  | cold
  | unformatted
  | recovering
  | running
  | failed
  | stopping
  | safe
deriving DecidableEq, Repr

/-! ## Host ports -/

/-- Response codes (Table 10-3, values of 13_formats.md 13.3). -/
inductive RespCode where
  | ok
  | tag
  | halted
  | wedged
  | split
  | range
  | guarded
  | unscoped
  | claimed
  | journalFault
  | claimsFull
  | journalFull
  | media
  | noJournal
  | depth
  | level
deriving DecidableEq, Repr

/-- Where a queued request stands: not begun; a begun READ before a hazard or at the array (R91, R89); a begun write
forwarded as a plain write (R81) or in PRE-READ, APPEND or TARGET (Table 5-3); a begun marker; finished, its response on
the path (R150). -/
inductive Stage where
  | waiting
  | readHazard
  | readAccess
  | plain
  | preRead
  | append
  | target
  | marker
  | finished
deriving DecidableEq, Repr

/-- A place of the request queue (R147) with the write record of a begun write (R77). -/
structure Entry where
  req : Request
  stage : Stage
  /-- the port's depth at the moment of begin (R77); 0 before -/
  level : Nat
  /-- begun before an HRST assertion: its response will be dropped (R153) -/
  withheld : Bool
deriving DecidableEq, Repr

/-- A response on the response path (R151, Table 13-5). -/
structure Response where
  tag : BitVec 3
  code : RespCode
  data : LineData
  /-- a TAG refusal holds no queue place (R147) -/
  refusal : Bool
deriving DecidableEq, Repr

/-- A host port (R147, R151, R153). -/
structure HostPort where
  /-- level of the HRST line -/
  hrst : Bool
  /-- request queue, oldest first -/
  queue : List Entry
  /-- response path, oldest first -/
  path : List Response
deriving DecidableEq, Repr

/-! ## Scope unit -/

/-- Port states (Table 1-4). -/
inductive PortState where
  | active
  | unwinding
  | resetting
  | wedged
deriving DecidableEq, Repr

/-- Causes of a forced abandon (section 1.5). -/
inductive AbandonCause where
  | timer
  | forced
  | portReset
deriving DecidableEq, Repr

/-- Action of a scope age timer (section 1.4). -/
inductive TimerAction where
  | alert
  | abandon
deriving DecidableEq, Repr

/-- An entry of a scope stack (Table 1-1); its level is its place. -/
structure ScopeEntry where
  serial : BitVec 16
  position : Nat
deriving DecidableEq, Repr

/-- The scope unit's state for one port. -/
structure ScopePort where
  /-- innermost open scope first (R1) -/
  stack : List ScopeEntry
  serialCounter : BitVec 16
  state : PortState
  /-- scope age timer: limit in ms (0 off), action, running or stopped, age of the level-1 scope (R15) -/
  limit : BitVec 16
  action : TimerAction
  running : Bool
  age : Nat
  /-- the limit and action that apply to the open level-1 scope: those at its OPEN, or of a later SET TIMER that applies to
  it (R17) -/
  scopeLimit : BitVec 16
  scopeAction : TimerAction
  /-- an expiry with action ALERT has been taken for this scope (R16) -/
  expired : Bool
  /-- forced abandon pending, with its cause (R18) -/
  pendingAbandon : Option AbandonCause
  /-- reset noted (R14) -/
  resetNoted : Bool
deriving DecidableEq, Repr

/-! ## Region table -/

/-- Write modes (Table 4-1). -/
inductive Mode where
  | pass
  | journal
  | guard
deriving DecidableEq, Repr

/-- A region entry (Table 4-1); `allow` is the unscoped policy ALLOW. -/
structure Region where
  first : Nat
  last : Nat
  mode : Mode
  enabled : Bool
  allow : Bool
deriving DecidableEq, Repr

/-- The region table (R65). -/
structure RegionTable where
  entries : Vector Region 8
  defaultMode : Mode
  lineCount : Option Nat
deriving DecidableEq, Repr

/-! ## Claim table -/

/-- Image positions at levels 1 to 4 (Table 2-1). -/
structure Images where
  l1 : Option Nat
  l2 : Option Nat
  l3 : Option Nat
  l4 : Option Nat
deriving DecidableEq, Repr

/-- A claim entry (Table 2-1); `recording` is the state PENDING, its negation HELD (R24). -/
structure Claim where
  line : Nat
  port : Port
  recording : Bool
  images : Images
deriving DecidableEq, Repr

/-- The claim table: 256 slots (R23). -/
structure ClaimTable where
  slots : Vector (Option Claim) 256
deriving DecidableEq, Repr

/-! ## Array accesses -/

/-- Accesses the array port carries (R155). -/
inductive Access where
  | readLine (line : Nat)
  | writeFull (line : Nat) (data : LineData)
  | writePart (line : Nat) (startWord count : Nat) (enables : BitVec 64) (data : LineData)
deriving DecidableEq, Repr

/-- Who asked for an access (Table 11-1). -/
inductive Requester where
  | anchor
  | journal
  | rollback
  | recovery
  | host (port : Port)
deriving DecidableEq, Repr

/-- The outstanding access (R155). -/
structure Outstanding where
  access : Access
  requester : Requester
  number : BitVec 4
  /-- the timeout it was granted with, in units of 10 µs (R157) -/
  timeout : BitVec 8
deriving DecidableEq, Repr

/-- The array port and the arbiter (R155, R156). -/
structure ArrayPort where
  outstanding : Option Outstanding
  number : BitVec 4
  /-- timeout in force, in units of 10 µs (R159) -/
  timeout : BitVec 8
  lastHost : Port
  anchorReq : Option Access
  journalReq : Option Access
  rollbackReq : Option Access
  recoveryReq : Option Access
  /-- waiting host accesses of each port, oldest first -/
  hostReq : PerPort (List Access)
deriving DecidableEq, Repr

/-! ## Journal writer -/

/-- Close codes (Table 3-4). -/
inductive CloseCode where
  | merged
  | committed
  | abandonedHost
  | abandonedTimer
  | abandonedForced
  | abandonedPortReset
  | abandonedRecovery
deriving DecidableEq, Repr

/-- Who handed an append item over (R48). -/
inductive ItemFrom where
  | write
  | marker
  | rollback
  | recovery
deriving DecidableEq, Repr

/-- What an append item asks for (R43, R48). -/
inductive ItemRecord where
  | openScope
  | image (line : Nat) (body : LineData)
  | close (code : CloseCode)
deriving DecidableEq, Repr

/-- An append item: the requester's fields of the record (R43, R48). -/
structure Item where
  source : ItemFrom
  port : Port
  level : Nat
  serial : BitVec 16
  record : ItemRecord
deriving DecidableEq, Repr

/-- The append in progress (R50): the item, the PAD length in front of it, the header position of the record asked for,
and the array writes not yet asked for. -/
structure Append where
  item : Item
  pad : Nat
  position : Nat
  rest : List Access
deriving DecidableEq, Repr

/-- What the held item at the front of the append queue waits for: the end of the writer's own request (R56), in
STOPPING the end of the update in progress (R63), or, that update having ended, to be taken again (R49). -/
inductive Hold where
  | request
  | updateEnd
  | over
deriving DecidableEq, Repr

/-- A tree start (R53). -/
structure TreeStart where
  position : Nat
  sequence : BitVec 32
deriving DecidableEq, Repr

/-- The journal writer (R41 to R63). No geometry is held as 0 lines. -/
structure Journal where
  faulted : Bool
  base : Nat
  lines : Nat
  lowWater : Nat
  epoch : BitVec 16
  /-- anchored tail and tail sequence (R54) -/
  tail : Nat
  tailSeq : BitVec 32
  head : Nat
  nextSeq : BitVec 32
  treeStart : PerPort (Option TreeStart)
  /-- last-record positions (R46) -/
  last : PerPort (Option Nat)
  queue : List Item
  append : Option Append
  held : Option Hold
deriving DecidableEq, Repr

/-! ## Anchor unit -/

/-- The two anchor copies. -/
inductive Copy where
  | a
  | b
deriving DecidableEq, Repr

/-- What an anchor copy carries besides marker, generation and check (Table 7-1). -/
structure Setup where
  epoch : BitVec 16
  /-- units of 10 µs -/
  timeout : BitVec 8
  defaultMode : Mode
  arrayLines : Nat
  base : Nat
  lines : Nat
  tail : Nat
  tailSeq : BitVec 32
  lowWater : Nat
  limit : PerPort (BitVec 16)
  action : PerPort TimerAction
  regions : Vector Region 8
deriving DecidableEq, Repr

/-- A request for an anchor update (R115): none, pending, or pending and ended by the update in progress. -/
inductive UpdateReq where
  | none
  | pending
  | covered
deriving DecidableEq, Repr

/-- What a copy write is for, by the state it began in (R118) or, for a format, was accepted in (R122). -/
inductive Purpose where
  | running
  | recovery
  | format (acceptedIn : PartState)
deriving DecidableEq, Repr

/-- The copy write in progress (R114, R116). -/
structure Update where
  target : Copy
  generation : BitVec 32
  values : Setup
  purpose : Purpose
  /-- the first line has been answered without error and the second asked for -/
  second : Bool
deriving DecidableEq, Repr

/-- An accepted FORMAT JOURNAL (R121). -/
structure Format where
  arrayLines : Nat
  base : Nat
  lines : Nat
  lowWater : Nat
  acceptedIn : PartState
deriving DecidableEq, Repr

/-- The anchor unit (R113 to R122). -/
structure AnchorUnit where
  newest : Option Copy
  generation : BitVec 32
  otherValid : Bool
  setup : Option Setup
  update : Option Update
  writerReq : UpdateReq
  linkReq : UpdateReq
  recoveryReq : UpdateReq
  /-- the reads of COLD answered so far, oldest first; none for a read in error (R126) -/
  cold : Option (List (Option LineData))
  format : Option Format
deriving DecidableEq, Repr

/-! ## Rollback engine -/

/-- Kind of a rollback job (Table 6-1). -/
inductive JobKind where
  | level (l : Nat)
  | all
deriving DecidableEq, Repr

/-- Phase of a rollback job (Table 6-1). -/
inductive JobPhase where
  | waiting
  | restoring
  | closing
deriving DecidableEq, Repr

/-- A rollback job (Table 6-1). -/
structure Job where
  port : Port
  kind : JobKind
  cause : CloseCode
  cursor : Nat
  restored : Nat
  phase : JobPhase
  closed : Nat
deriving DecidableEq, Repr

/-- Step of a restore (R101, R102): the header line is being read, the second line is being read, the image is being
written. -/
inductive RestoreStep where
  | readHeader
  | readBody (first : LineData)
  | write
deriving DecidableEq, Repr

/-- The line in hand (R97) with the slot it was named from and the image position. -/
structure InHand where
  slot : Fin 256
  line : Nat
  position : Nat
  step : RestoreStep
deriving DecidableEq, Repr

/-- The rollback engine (R97). -/
structure RollbackEngine where
  jobs : List Job
  hand : Option InHand
deriving DecidableEq, Repr

/-! ## Recovery engine -/

/-- Recovery results (R139). -/
inductive RecoveryResult where
  | none
  | clean
  | rolledBack
  | failed
deriving DecidableEq, Repr

/-- Failure causes (Table 8-5). -/
inductive FailCause where
  | anchorRead
  | scanRead
  | chainRead
  | chainCheck
  | imageWrite
  | closeAppend
  | anchorWrite
deriving DecidableEq, Repr

/-- An entry of a scan stack (Table 8-3), with the sequence of its OPEN record (R130). -/
structure ScanEntry where
  level : Nat
  serial : BitVec 16
  position : Nat
  sequence : BitVec 32
deriving DecidableEq, Repr

/-- The scan state of one port (Table 8-3). -/
structure ScanPort where
  started : Bool
  /-- innermost first -/
  stack : List ScanEntry
  last : Option Nat
  lastOpen : Option (BitVec 16)
deriving DecidableEq, Repr

/-- What the recovery engine waits for (R129, R133, R134). -/
inductive RecoveryPhase where
  | idle
  | scanHeader
  | scanBody (first : LineData)
  | walkHeader (port : Port) (position : Nat)
  | walkBody (port : Port) (position : Nat) (first : LineData)
  | walkWrite (port : Port) (position : Nat) (prior : Option Nat)
  | closing (port : Port)
  | finalUpdate
deriving DecidableEq, Repr

/-- The recovery engine and the recovery result (R128, R139). -/
structure RecoveryEngine where
  phase : RecoveryPhase
  pos : Nat
  expected : BitVec 32
  cells : Nat
  ports : PerPort ScanPort
  records : Nat
  scopes : Nat
  images : Nat
  result : RecoveryResult
  cause : Option FailCause
  mismatch : Bool
  anchorError : Bool
  scanEnd : Option Nat
deriving DecidableEq, Repr

/-! ## Management link -/

/-- Reply codes (13_formats.md 13.4). -/
inductive ReplyCode where
  | done
  | notQuiet
  | badParam
  | badCheck
  | unknown
  | wrongState
  | media
deriving DecidableEq, Repr

/-- The work of the command in a WORKING slot (R119, R122, R21). -/
inductive Work where
  | update
  | format
  | force (port : Port)
deriving DecidableEq, Repr

/-- The command slot (R162). The exchange number of a reply is the held one. -/
inductive Slot where
  | empty
  | working (work : Work)
  | ready (code : ReplyCode) (payload : List Byte)
deriving DecidableEq, Repr

/-- The management link controller (R161, R162). -/
structure LinkController where
  slot : Slot
  exchange : BitVec 4
  /-- the model's own: the bytes the part drove on data out in the last frame -/
  sent : List Byte
  /-- the model's own: the work of the command in the slot has ended since the last frame ended, so a frame in progress may
  have been selected while the slot was WORKING (R161, R162) -/
  ended : Bool
deriving DecidableEq, Repr

/-! ## Alerts and counters -/

/-- The ten alert latches (Table 12-2). -/
inductive Latch where
  | aged (port : Port)
  | jlow
  | jfault
  | wedged (port : Port)
  | media
  | claimHigh
  | recovered
  | safe
deriving DecidableEq, Repr

/-- The alert unit: one bit for each latch, in the places of 13_formats.md 13.4 (R167, R170). -/
structure AlertUnit where
  latches : BitVec 10
  mask : BitVec 10
deriving DecidableEq, Repr

/-- Counters of a port (Table 12-3); `refusals` in the order of the code values 1 to 15. -/
structure PortCounters where
  images : BitVec 32
  commits : BitVec 32
  hostAbandons : BitVec 32
  forcedAbandons : BitVec 32
  refusals : Vector (BitVec 32) 15
deriving DecidableEq, Repr

/-- Every counter of the part (Table 12-3). -/
structure Counters where
  port : PerPort PortCounters
  anchorWrites : BitVec 32
  arrayErrors : BitVec 32
  arrayTimeouts : BitVec 32
  lateResponses : BitVec 32
  badFrames : BitVec 32
deriving DecidableEq, Repr

/-! ## The part and the machine -/

/-- Everything the part holds. -/
structure Device where
  part : PartState
  /-- level of PRST -/
  prst : Bool
  /-- level of PWRWARN -/
  pwrwarn : Bool
  host : PerPort HostPort
  scope : PerPort ScopePort
  regions : RegionTable
  claims : ClaimTable
  journal : Journal
  anchor : AnchorUnit
  rollback : RollbackEngine
  recovery : RecoveryEngine
  array : ArrayPort
  link : LinkController
  alerts : AlertUnit
  counters : Counters
  /-- the model's own: what the free value `Config.haltQueueFirst` is applied to next -/
  choice : Nat
deriving DecidableEq, Repr

/-- The machine: the part and the commands that wait, first in, first out. -/
structure State where
  pending : List Instr
  dev : Device
deriving DecidableEq, Repr

/-- Reasons for which the machine stops: there are none. Every command of the part ends in a next state; its errors are
response codes, reply codes, latches and states. -/
inductive Fault where
deriving DecidableEq, Repr

/-- Reasons for which a command is refused. -/
inductive Refusal where
  /-- raised by `exec` for a command whose meaning is not written; safe: nothing is claimed of it. No arm raises it. -/
  | notModelled (mnemonic : String)
deriving DecidableEq, Repr

/-! ## Reset values -/

/-- A host port after a reset (R148), its HRST line released. -/
def HostPort.cleared : HostPort := ⟨false, [], []⟩

/-- A scope unit port after a reset (Table 1-2), with its line released and the timer set to off and ALERT. -/
def ScopePort.cleared : ScopePort :=
  { stack := [], serialCounter := 0#16, state := .active, limit := 0#16, action := .alert, running := false, age := 0,
    scopeLimit := 0#16, scopeAction := .alert, expired := false, pendingAbandon := none, resetNoted := false }

/-- A region entry after a reset (Table 4-2). -/
def Region.cleared : Region := ⟨0, 0, .pass, false, false⟩

/-- The region table after a reset (Table 4-2). -/
def RegionTable.cleared : RegionTable := ⟨Vector.replicate 8 Region.cleared, .pass, none⟩

/-- The claim table after a reset: every slot free (R25). -/
def ClaimTable.cleared : ClaimTable := ⟨Vector.replicate 256 none⟩

/-- The journal writer after a reset (Table 3-6, first column). -/
def Journal.cleared : Journal :=
  { faulted := false, base := 0, lines := 0, lowWater := 0, epoch := 0#16, tail := 0, tailSeq := 0#32, head := 0,
    nextSeq := 0#32, treeStart := ⟨none, none⟩, last := ⟨none, none⟩, queue := [], append := none, held := none }

/-- The anchor unit after a reset (R113). -/
def AnchorUnit.cleared : AnchorUnit :=
  { newest := none, generation := 0#32, otherValid := false, setup := none, update := none, writerReq := .none,
    linkReq := .none, recoveryReq := .none, cold := none, format := none }

/-- The rollback engine after a reset (R97). -/
def RollbackEngine.cleared : RollbackEngine := ⟨[], none⟩

/-- The scan state of a port at the start of a scan (Table 8-3). -/
def ScanPort.cleared : ScanPort := ⟨false, [], none, none⟩

/-- The recovery engine after a reset (R125, R139). -/
def RecoveryEngine.cleared : RecoveryEngine :=
  { phase := .idle, pos := 0, expected := 0#32, cells := 0, ports := ⟨ScanPort.cleared, ScanPort.cleared⟩, records := 0,
    scopes := 0, images := 0, result := .none, cause := none, mismatch := false, anchorError := false, scanEnd := none }

/-- The arbiter after a reset (R155). -/
def ArrayPort.cleared : ArrayPort :=
  { outstanding := none, number := 0#4, timeout := Config.resetTimeout, lastHost := .p1, anchorReq := none,
    journalReq := none, rollbackReq := none, recoveryReq := none, hostReq := ⟨[], []⟩ }

/-- The management link controller after a reset (R162). -/
def LinkController.cleared : LinkController := ⟨.empty, 0#4, [], false⟩

/-- The alert unit after a reset (R167, R170). -/
def AlertUnit.cleared : AlertUnit := ⟨0#10, BitVec.allOnes 10⟩

/-- The counters of a port at 0. -/
def PortCounters.cleared : PortCounters := ⟨0#32, 0#32, 0#32, 0#32, Vector.replicate 15 0#32⟩

/-- Every counter at 0 (R171). -/
def Counters.cleared : Counters :=
  ⟨⟨PortCounters.cleared, PortCounters.cleared⟩, 0#32, 0#32, 0#32, 0#32, 0#32⟩

/-- The part with every block cleared and all lines released, in COLD, the start-up sequence not begun. -/
def Device.cleared : Device :=
  { part := .cold, prst := false, pwrwarn := false, host := ⟨HostPort.cleared, HostPort.cleared⟩,
    scope := ⟨ScopePort.cleared, ScopePort.cleared⟩, regions := RegionTable.cleared, claims := ClaimTable.cleared,
    journal := Journal.cleared, anchor := AnchorUnit.cleared, rollback := RollbackEngine.cleared,
    recovery := RecoveryEngine.cleared, array := ArrayPort.cleared, link := LinkController.cleared,
    alerts := AlertUnit.cleared, counters := Counters.cleared, choice := 0 }

/-- The machine right after reset: COLD with every block cleared (R125) and the start-up sequence begun, so that the
anchor unit has asked for the read of line 0 (R126: "On entering COLD the anchor unit asks the arbiter for four line
reads of the anchor area"); no command waits. -/
def State.reset : State :=
  { pending := []
    dev := { Device.cleared with
      anchor := { AnchorUnit.cleared with cold := some [] }
      array := { ArrayPort.cleared with anchorReq := some (.readLine 0) } } }

end Sys2Proof.Machine
end

