-- ==== Sys2Proof/Machine/Flags.lean ====
section
/-!
DEFINITION. Alert latches and the ALERT line (R167, R170), and the counters (R171).
-/
namespace Sys2Proof.Machine

/-- The place of a latch in the masks (13_formats.md 13.4). -/
def latchBit : Latch → Nat
  | .aged p => p.num
  | .jlow => 2
  | .jfault => 3
  | .wedged p => 4 + p.num
  | .media => 6
  | .claimHigh => 7
  | .recovered => 8
  | .safe => 9

/-- A block latches an alert (R167); a latch already set stays set. -/
def Device.latch (d : Device) (l : Latch) : Device :=
  { d with alerts := { d.alerts with latches := d.alerts.latches ||| (1#10 <<< latchBit l) } }

/-- The ALERT line is asserted while at least one latch is both set and enabled (R170). -/
def Device.alertLine (d : Device) : Bool := decide (d.alerts.latches &&& d.alerts.mask ≠ 0#10)

/-- A counter advances by one and stops at its greatest value (R171). -/
def bump (c : BitVec 32) : BitVec 32 := if c = BitVec.allOnes 32 then c else c + 1#32

/-- Values of the response codes (13_formats.md 13.3). -/
def respValue : RespCode → Nat
  | .ok => 0
  | .tag => 1
  | .halted => 2
  | .wedged => 3
  | .split => 4
  | .range => 5
  | .guarded => 6
  | .unscoped => 7
  | .claimed => 8
  | .journalFault => 9
  | .claimsFull => 10
  | .journalFull => 11
  | .media => 12
  | .noJournal => 13
  | .depth => 14
  | .level => 15

/-- The refusal counter of a code advances; OK has none (R152). -/
def PortCounters.refuse (c : PortCounters) (code : RespCode) : PortCounters :=
  match respValue code with
  | 0 => c
  | n + 1 => { c with refusals := c.refusals.setIfInBounds n (bump (c.refusals[n]?.getD 0#32)) }

/-- Change the counters of port p. -/
def Device.countPort (d : Device) (p : Port) (f : PortCounters → PortCounters) : Device :=
  { d with counters := { d.counters with port := d.counters.port.set p (f (d.counters.port.get p)) } }

/-- IMAGES of port p advances (R31). -/
def Device.countImage (d : Device) (p : Port) : Device := d.countPort p fun c => { c with images := bump c.images }

/-- COMMITS of port p advances (R8). -/
def Device.countCommit (d : Device) (p : Port) : Device := d.countPort p fun c => { c with commits := bump c.commits }

/-- HOST_ABANDONS of port p advances (R10). -/
def Device.countHostAbandon (d : Device) (p : Port) : Device :=
  d.countPort p fun c => { c with hostAbandons := bump c.hostAbandons }

/-- FORCED_ABANDONS of port p advances (R19). -/
def Device.countForcedAbandon (d : Device) (p : Port) : Device :=
  d.countPort p fun c => { c with forcedAbandons := bump c.forcedAbandons }

/-- The refusal counter of port p for a code advances (R152). -/
def Device.countRefusal (d : Device) (p : Port) (code : RespCode) : Device := d.countPort p fun c => c.refuse code

/-- ANCHOR_WRITES advances (R117, R122). -/
def Device.countAnchorWrite (d : Device) : Device :=
  { d with counters := { d.counters with anchorWrites := bump d.counters.anchorWrites } }

/-- An access ends with ERROR: ARRAY_ERRORS advances (R158). -/
def Device.countArrayError (d : Device) : Device :=
  { d with counters := { d.counters with arrayErrors := bump d.counters.arrayErrors } }

/-- An access ends with a timeout: ARRAY_TIMEOUTS and ARRAY_ERRORS advance (R157). -/
def Device.countArrayTimeout (d : Device) : Device :=
  { d with counters := { d.counters with arrayErrors := bump d.counters.arrayErrors,
                                         arrayTimeouts := bump d.counters.arrayTimeouts } }

/-- LATE_RESPONSES advances (R157). -/
def Device.countLateResponse (d : Device) : Device :=
  { d with counters := { d.counters with lateResponses := bump d.counters.lateResponses } }

/-- BAD_FRAMES advances (R163). -/
def Device.countBadFrame (d : Device) : Device :=
  { d with counters := { d.counters with badFrames := bump d.counters.badFrames } }

end Sys2Proof.Machine
end

