-- ==== Sys2Proof/Machine/Operands.lean ====
section
/-!
DEFINITION. Operand forms: the fields of a host request (Table 13-4, section 10.1), what an access does to a line of the
array (R155), and the numbers in the payloads of management frames (13_formats.md: most significant byte first).
-/
namespace Sys2Proof.Machine

/-! ## Host requests -/

/-- The three kinds of request; kind 3 is taken as a MARK (R174). -/
inductive ReqKind where
  | read
  | write
  | mark
deriving DecidableEq, Repr

/-- Kind of a request (Table 13-4, R174). -/
def reqKind (r : Request) : ReqKind :=
  if r.kind = 0#2 then .read else if r.kind = 1#2 then .write else .mark

/-- The kinds of marker; `none` is the field value 3 (Table 13-4, R146). -/
inductive MarkKind where
  | openScope
  | closeScope
  | abandonScope
  | none
deriving DecidableEq, Repr

/-- Marker kind of a request (Table 13-4). -/
def markKind (r : Request) : MarkKind :=
  if r.marker = 0#2 then .openScope
  else if r.marker = 1#2 then .closeScope
  else if r.marker = 2#2 then .abandonScope
  else .none

/-- Line index of a request. -/
def reqLine (r : Request) : Nat := r.line.toNat

/-- Word count, 1 to 16 (Table 13-4: the field holds the count minus 1). -/
def reqCount (r : Request) : Nat := r.countField.toNat + 1

/-- Marker level, field values 0 to 7 (R146). -/
def reqLevel (r : Request) : Nat := r.level.toNat

/-- Start word + word count exceeds 16 (R80, R89). -/
def splitsLine (r : Request) : Bool := decide (16 < r.startWord.toNat + reqCount r)

/-- The array access of a forwarded write or a target write (R81, R85): full-line when it names every byte of the line,
partial-line otherwise. -/
def writeAccess (r : Request) : Access :=
  if r.startWord = 0#4 ∧ reqCount r = 16 ∧ r.enables = BitVec.allOnes 64 then .writeFull (reqLine r) r.data
  else .writePart (reqLine r) r.startWord.toNat (reqCount r) r.enables r.data

/-- The data of a READ answered OK: the words from the start word for the word count, zero elsewhere (R89, 13.3). -/
def readWords (r : Request) (line : LineData) : LineData :=
  let named : LineData := (BitVec.ofNat 512 (2 ^ (32 * reqCount r) - 1)) <<< (32 * r.startWord.toNat)
  line &&& named

/-! ## Accesses -/

/-- The line an access addresses. -/
def accessLine : Access → Nat
  | .readLine l => l
  | .writeFull l _ => l
  | .writePart l _ _ _ _ => l

/-- Byte k of a line (13_formats.md). -/
def lineByte (d : LineData) (k : Nat) : Byte := d.extractLsb' (8 * k) 8

/-- Whether an access writes byte k of its line (R155): a partial-line write writes the enabled bytes of the words from
its start word for its word count. -/
def writesByte (a : Access) (k : Nat) : Bool :=
  match a with
  | .readLine _ => false
  | .writeFull _ _ => true
  | .writePart _ start count enables _ => decide (start ≤ k / 4) && decide (k / 4 < start + count) && enables.getLsbD k

/-- Byte k of the addressed line after the array has carried an access out (R155: "Bytes whose enable is clear, and
words outside the range, keep their content"). -/
def byteAfter (a : Access) (old : LineData) (k : Nat) : Byte :=
  match a with
  | .readLine _ => lineByte old k
  | .writeFull _ d => lineByte d k
  | .writePart _ _ _ _ d => if writesByte a k then lineByte d k else lineByte old k

/-! ## Numbers in management payloads -/

/-- A 16-bit number from two payload bytes, most significant first. -/
def num16 (hi lo : Byte) : BitVec 16 := hi ++ lo

/-- A 32-bit number from four payload bytes, most significant first. -/
def num32 (b3 b2 b1 b0 : Byte) : BitVec 32 := b3 ++ b2 ++ b1 ++ b0

/-- The two bytes of a 16-bit number, most significant first. -/
def bytes16 (x : BitVec 16) : List Byte := [x.extractLsb' 8 8, x.extractLsb' 0 8]

/-- The four bytes of a 32-bit number, most significant first. -/
def bytes32 (x : BitVec 32) : List Byte :=
  [x.extractLsb' 24 8, x.extractLsb' 16 8, x.extractLsb' 8 8, x.extractLsb' 0 8]

/-- A number as one payload byte. -/
def byteOf (n : Nat) : Byte := BitVec.ofNat 8 n

/-- A number in two payload bytes. -/
def bytes16Of (n : Nat) : List Byte := bytes16 (BitVec.ofNat 16 n)

/-- A number in four payload bytes. -/
def bytes32Of (n : Nat) : List Byte := bytes32 (BitVec.ofNat 32 n)

/-- A yes-or-no item: one byte, 0 or 1 (R174). -/
def flagByte (b : Bool) : Byte := if b then 1#8 else 0#8

/-- A port named by a payload byte; other values are out of range. -/
def portOf (b : Byte) : Option Port :=
  if b = 0#8 then some .p0 else if b = 1#8 then some .p1 else none

/-- A mode named by a number: 0 PASS, 1 JOURNAL, 2 GUARD (Table 13-3). -/
def modeOf (n : Nat) : Option Mode :=
  match n with
  | 0 => some .pass
  | 1 => some .journal
  | 2 => some .guard
  | _ => none

/-- The number of a mode (Table 13-3). -/
def modeNum : Mode → Nat
  | .pass => 0
  | .journal => 1
  | .guard => 2

/-- A timer action named by a byte: 0 ALERT, 1 ABANDON (Table 13-3). -/
def actionOf (b : Byte) : Option TimerAction :=
  if b = 0#8 then some .alert else if b = 1#8 then some .abandon else none

/-- The number of a timer action (Table 13-3). -/
def actionNum : TimerAction → Nat
  | .alert => 0
  | .abandon => 1

/-- The attribute byte of a region (Table 13-3): mode in bits 0 and 1, enabled in bit 2, policy ALLOW in bit 3. -/
def attributeByte (r : Region) : Byte :=
  0#4 ++ BitVec.ofBool r.allow ++ BitVec.ofBool r.enabled ++ BitVec.ofNat 2 (modeNum r.mode)

end Sys2Proof.Machine
end

