-- ==== Sys2Proof/Machine/Formats.lean ====
section
/-!
DEFINITION. The byte layouts of 13_formats.md: the record check (R173), the header cell (Table 13-1), the cells of a
line (R41), the anchor copy (Table 13-3) and its validity (R113).
-/
namespace Sys2Proof.Machine

/-! ## The 32-bit check -/

/-- One bit of the check (R173, step 2). -/
def crc32Bit (c : BitVec 32) (b : Bool) : BitVec 32 :=
  if c.getLsbD 0 != b then (c >>> 1) ^^^ 0xEDB88320#32 else c >>> 1

/-- One byte of the check, least significant bit first (R173). -/
def crc32Byte (c : BitVec 32) (b : Byte) : BitVec 32 :=
  [0, 1, 2, 3, 4, 5, 6, 7].foldl (fun c i => crc32Bit c (b.getLsbD i)) c

/-- The check over a run of bytes (R173): start FFFFFFFF hex, end inverted. -/
def crc32 (bytes : List Byte) : BitVec 32 := ~~~ (bytes.foldl crc32Byte 0xFFFFFFFF#32)

/-- The n bytes of a number stored least significant byte first. -/
def bytesOf {w : Nat} (n : Nat) (x : BitVec w) : List Byte := (List.range n).map fun k => x.extractLsb' (8 * k) 8

/-! ## Records -/

/-- The header cell of a record (Table 13-1), every field as it stands in the array. -/
structure Header where
  kind : BitVec 8
  port : BitVec 8
  level : BitVec 8
  code : BitVec 8
  epoch : BitVec 16
  serial : BitVec 16
  sequence : BitVec 32
  prior : BitVec 32
  target : BitVec 32
  length : BitVec 8
  zero : BitVec 56
  check : BitVec 32
deriving DecidableEq, Repr

/-- Record kinds (Table 13-2). -/
def kindOpen : BitVec 8 := 1#8
def kindImage : BitVec 8 := 2#8
def kindClose : BitVec 8 := 3#8
def kindPad : BitVec 8 := 4#8

/-- Close code values (Table 13-2). -/
def closeValue : CloseCode → BitVec 8
  | .merged => 1#8
  | .committed => 2#8
  | .abandonedHost => 3#8
  | .abandonedTimer => 4#8
  | .abandonedForced => 5#8
  | .abandonedPortReset => 6#8
  | .abandonedRecovery => 7#8

/-- The prior field when absent (R43, Table 13-1). -/
def priorAbsent : BitVec 32 := 0xFFFFFFFF#32

/-- A prior position as stored. -/
def priorField : Option Nat → BitVec 32
  | none => priorAbsent
  | some c => BitVec.ofNat 32 c

/-- A prior position as read. -/
def priorOf (x : BitVec 32) : Option Nat := if x = priorAbsent then none else some x.toNat

/-- The 32 bytes of a header cell (Table 13-1): byte 0 lowest. -/
def encodeHeader (h : Header) : CellData :=
  h.check ++ (h.zero ++ (h.length ++ (h.target ++ (h.prior ++ (h.sequence ++ (h.serial ++ (h.epoch ++ (h.code ++
    (h.level ++ (h.port ++ h.kind))))))))))

/-- The fields of a header cell (Table 13-1). -/
def decodeHeader (c : CellData) : Header :=
  { kind := c.extractLsb' 0 8, port := c.extractLsb' 8 8, level := c.extractLsb' 16 8, code := c.extractLsb' 24 8,
    epoch := c.extractLsb' 32 16, serial := c.extractLsb' 48 16, sequence := c.extractLsb' 64 32,
    prior := c.extractLsb' 96 32, target := c.extractLsb' 128 32, length := c.extractLsb' 160 8,
    zero := c.extractLsb' 168 56, check := c.extractLsb' 224 32 }

/-- The check of a record: over the header with the check field as zero and, for an IMAGE, the body (R47, R173). -/
def recordCheck (h : Header) (body : Option LineData) : BitVec 32 :=
  crc32 (bytesOf 32 (encodeHeader { h with check := 0#32 }) ++
    match body with
    | none => []
    | some d => bytesOf 64 d)

/-! ## Cells and lines -/

/-- The cell in the first half (false) or second half (true) of a line (R41). -/
def halfOf (line : LineData) (second : Bool) : CellData :=
  if second then line.extractLsb' 256 256 else line.extractLsb' 0 256

/-- A line from its two cells. -/
def joinCells (first second : CellData) : LineData := second ++ first

/-- The header cell of the record at cell h, from the line that holds it. -/
def headerCell (h : Nat) (line : LineData) : CellData := halfOf line (h % 2 == 1)

/-- The body of the IMAGE at cell h, from the line holding h and the line holding h + 2 (R42): for h even the second
half of the one and the first half of the other, for h odd the whole second line. -/
def imageBody (h : Nat) (first second : LineData) : LineData :=
  if h % 2 = 0 then joinCells (halfOf first true) (halfOf second false) else second

/-- The partial-line write of one cell, in the half of its line (R42). -/
def writeCell (base c : Nat) (cell : CellData) : Access :=
  if c % 2 = 0 then .writePart (base + c / 2) 0 8 0x00000000FFFFFFFF#64 (joinCells cell 0#256)
  else .writePart (base + c / 2) 8 8 0xFFFFFFFF00000000#64 (joinCells 0#256 cell)

/-! ## Anchor copies -/

/-- The 72 bits of a region in an anchor copy (13_formats.md 13.2). -/
def encodeRegion (r : Region) : BitVec 72 :=
  attributeByte r ++ (BitVec.ofNat 32 r.last ++ BitVec.ofNat 32 r.first)

/-- A region of an anchor copy; none when its mode is out of range. Bits 4 to 7 of the attribute byte are not examined. -/
def decodeRegion (x : BitVec 72) : Option Region :=
  match modeOf (x.extractLsb' 64 2).toNat with
  | none => none
  | some m => some ⟨(x.extractLsb' 0 32).toNat, (x.extractLsb' 32 32).toNat, m, x.getLsbD 66, x.getLsbD 67⟩

/-- Bytes 0 to 123 of an anchor copy (Table 13-3). -/
def encodeCopyBody (generation : BitVec 32) (v : Setup) : BitVec 992 :=
  0#64 ++ (encodeRegion v.regions[7] ++ (encodeRegion v.regions[6] ++ (encodeRegion v.regions[5] ++
    (encodeRegion v.regions[4] ++ (encodeRegion v.regions[3] ++ (encodeRegion v.regions[2] ++
    (encodeRegion v.regions[1] ++ (encodeRegion v.regions[0] ++
    (0#8 ++ (BitVec.ofNat 8 (actionNum v.action.p1) ++ (v.limit.p1 ++
    (0#8 ++ (BitVec.ofNat 8 (actionNum v.action.p0) ++ (v.limit.p0 ++
    (BitVec.ofNat 32 v.lowWater ++ (v.tailSeq ++ (BitVec.ofNat 32 v.tail ++ (BitVec.ofNat 32 v.lines ++
    (BitVec.ofNat 32 v.base ++ (BitVec.ofNat 32 v.arrayLines ++
    (BitVec.ofNat 8 (modeNum v.defaultMode) ++ (v.timeout ++ (v.epoch ++
    (generation ++ Config.formatMarker))))))))))))))))))))))))

/-- The 128 bytes of an anchor copy, the check over bytes 0 to 123 in bytes 124 to 127 (Table 13-3, R173). -/
def encodeCopy (generation : BitVec 32) (v : Setup) : BitVec 1024 :=
  crc32 (bytesOf 124 (encodeCopyBody generation v)) ++ encodeCopyBody generation v

/-- First and second line of a copy. -/
def copyLine (c : BitVec 1024) (second : Bool) : LineData :=
  if second then c.extractLsb' 512 512 else c.extractLsb' 0 512

/-- The fields of a copy lie within the ranges of Table 7-1 and the journal lies within the array (R113). The lines of
region entries are not checked. -/
def Setup.inRange (v : Setup) : Bool :=
  decide (v.epoch ≠ 0#16) && decide (v.timeout ≠ 0#8) && decide (1 ≤ v.arrayLines) &&
  decide (v.arrayLines ≤ Config.maxArrayLines) && decide (Config.anchorLines ≤ v.base) &&
  decide (Config.minJournalLines ≤ v.lines) && decide (v.lines ≤ Config.maxJournalLines) &&
  decide (v.tail < 2 * v.lines) && decide (v.lowWater ≤ 2 * v.lines - Config.journalReserve) &&
  decide (v.base + v.lines ≤ v.arrayLines)

/-- The fields of a copy as Table 13-3 places them; none when a mode or an action is out of range. -/
def decodeFields (c : BitVec 1024) : Option Setup :=
  let region (n : Nat) : Option Region := decodeRegion (c.extractLsb' (352 + 72 * n) 72)
  match modeOf (c.extractLsb' 88 8).toNat, actionOf (c.extractLsb' 304 8), actionOf (c.extractLsb' 336 8) with
  | some m, some a0, some a1 =>
    match region 0, region 1, region 2, region 3, region 4, region 5, region 6, region 7 with
    | some r0, some r1, some r2, some r3, some r4, some r5, some r6, some r7 =>
      some { epoch := c.extractLsb' 64 16, timeout := c.extractLsb' 80 8, defaultMode := m,
             arrayLines := (c.extractLsb' 96 32).toNat, base := (c.extractLsb' 128 32).toNat,
             lines := (c.extractLsb' 160 32).toNat, tail := (c.extractLsb' 192 32).toNat,
             tailSeq := c.extractLsb' 224 32, lowWater := (c.extractLsb' 256 32).toNat,
             limit := ⟨c.extractLsb' 288 16, c.extractLsb' 320 16⟩, action := ⟨a0, a1⟩,
             regions := #v[r0, r1, r2, r3, r4, r5, r6, r7] }
    | _, _, _, _, _, _, _, _ => none
  | _, _, _ => none

/-- A copy read from its two lines: generation and fields when it is valid, none otherwise (R113). -/
def decodeCopy (first second : LineData) : Option (BitVec 32 × Setup) :=
  let c : BitVec 1024 := second ++ first
  if c.extractLsb' 0 32 = Config.formatMarker ∧ c.extractLsb' 992 32 = crc32 (bytesOf 124 c) then
    match decodeFields c with
    | some v => if v.inRange then some (c.extractLsb' 32 32, v) else none
    | none => none
  else none

/-- Copy X is newer than copy Y when their generations differ by 1 to 2^31 - 1 modulo 2^32 (R113). -/
def newerThan (x y : BitVec 32) : Bool := decide (x - y ≠ 0#32) && decide ((x - y).toNat < 2 ^ 31)

end Sys2Proof.Machine
end

