-- ==== Sys2Proof/Machine/Ops.lean ====
section
/-!
DEFINITION. The named operations the meanings share: the claim table (section 2), the request queue and the response
path (section 10), the arbiter's waiting accesses, the journal's arithmetic (R41, R53, R55, R56), the scope unit's port
states, timer and forced abandons (sections 1.3 to 1.5), the end of a rollback job (R11, R19, R104), a failed recovery
(R135), and quiet (R74).
-/
namespace Sys2Proof.Machine

/-! ## Ports -/

/-- Change host port p. -/
def Device.onHost (d : Device) (p : Port) (f : HostPort → HostPort) : Device :=
  { d with host := d.host.set p (f (d.host.get p)) }

/-- Change the scope unit's state of port p. -/
def Device.onScope (d : Device) (p : Port) (f : ScopePort → ScopePort) : Device :=
  { d with scope := d.scope.set p (f (d.scope.get p)) }

/-- Depth of a port: the number of its open scopes (R1). -/
def Device.depth (d : Device) (p : Port) : Nat := (d.scope.get p).stack.length

/-- The entry of an open level: level 1 lies at the bottom, the innermost level on top (R1). -/
def scopeAt (stack : List ScopeEntry) (level : Nat) : Option ScopeEntry := stack.reverse[level - 1]?

/-- Serial of an open level; 0 where the level is not open. -/
def serialAt (stack : List ScopeEntry) (level : Nat) : BitVec 16 :=
  match scopeAt stack level with
  | some e => e.serial
  | none => 0#16

/-! ## Claim table -/

/-- Image position at a level 1 to 4. -/
def imageAt (m : Images) : Nat → Option Nat
  | 1 => m.l1
  | 2 => m.l2
  | 3 => m.l3
  | 4 => m.l4
  | _ => none

/-- Set or remove the image position at a level 1 to 4. -/
def putImage (m : Images) (level : Nat) (v : Option Nat) : Images :=
  match level with
  | 1 => { m with l1 := v }
  | 2 => { m with l2 := v }
  | 3 => { m with l3 := v }
  | 4 => { m with l4 := v }
  | _ => m

/-- No image at any level. -/
def noImages : Images := ⟨none, none, none, none⟩

/-- Image position at the lowest level held (R38). -/
def lowestImage (m : Images) : Option Nat := m.l1.or (m.l2.or (m.l3.or m.l4))

/-- The lowest-numbered slot at or above a start whose entry meets a test (R37, R38). -/
def ClaimTable.find (t : ClaimTable) (start : Nat) (test : Claim → Bool) : Option (Fin 256) :=
  (List.finRange 256).find? fun i =>
    decide (start ≤ i.val) && (match t.slots[i] with
      | some c => test c
      | none => false)

/-- The slot whose entry is for a line (R23: at most one entry for any line). -/
def ClaimTable.slotOf (t : ClaimTable) (line : Nat) : Option (Fin 256) := t.find 0 fun c => c.line == line

/-- The entry for a line. -/
def ClaimTable.entryOf (t : ClaimTable) (line : Nat) : Option Claim :=
  match t.slotOf line with
  | some i => t.slots[i]
  | none => none

/-- The lowest-numbered free slot (R26). -/
def ClaimTable.freeSlot (t : ClaimTable) : Option (Fin 256) := (List.finRange 256).find? fun i => (t.slots[i]).isNone

/-- Entries in use, PENDING and HELD (R26). -/
def ClaimTable.inUse (t : ClaimTable) : Nat := t.slots.toList.countP Option.isSome

/-- Write one slot. -/
def ClaimTable.put (t : ClaimTable) (i : Fin 256) (v : Option Claim) : ClaimTable := ⟨t.slots.set i v⟩

/-- Change the entry of a slot; `none` frees it. -/
def ClaimTable.update (t : ClaimTable) (i : Fin 256) (f : Claim → Option Claim) : ClaimTable :=
  match t.slots[i] with
  | some c => t.put i (f c)
  | none => t

/-- The line has an entry of the other port, PENDING or HELD (R28, R30). -/
def ClaimTable.claimedByOther (t : ClaimTable) (p : Port) (line : Nat) : Bool :=
  match t.entryOf line with
  | some c => c.port != p
  | none => false

/-- The line has a PENDING entry (R33). -/
def ClaimTable.pendingOn (t : ClaimTable) (line : Nat) : Bool :=
  match t.entryOf line with
  | some c => c.recording
  | none => false

/-- A durable IMAGE at cell position P sets the image at the write's level and the entry becomes HELD (R31). -/
def ClaimTable.setImage (t : ClaimTable) (line level position : Nat) : ClaimTable :=
  match t.slotOf line with
  | some i => t.update i fun c => some { c with images := putImage c.images level (some position), recording := false }
  | none => t

/-- The change of a claim request is undone (R32): an entry without images is freed, another returns to HELD. -/
def ClaimTable.undo (t : ClaimTable) (line : Nat) : ClaimTable :=
  match t.slotOf line with
  | some i => t.update i fun c => if c.images = noImages then none else some { c with recording := false }
  | none => t

/-- Merge of level L into level L - 1 in one entry (R35). -/
def mergeClaim (p : Port) (level : Nat) (c : Claim) : Claim :=
  if c.port = p then
    match imageAt c.images level with
    | none => c
    | some q =>
      let kept := match imageAt c.images (level - 1) with
        | some q' => q'
        | none => q
      { c with images := putImage (putImage c.images (level - 1) (some kept)) level none }
  else c

/-- Merge of level L into level L - 1 for every entry of port p (R35). -/
def ClaimTable.merge (t : ClaimTable) (p : Port) (level : Nat) : ClaimTable :=
  ⟨t.slots.map fun s => s.map (mergeClaim p level)⟩

/-- Every entry of port p is freed, as one event (R36). -/
def ClaimTable.freeAll (t : ClaimTable) (p : Port) : ClaimTable :=
  ⟨t.slots.map fun s => s.bind fun c => if c.port = p then none else some c⟩

/-- A line is reported restored to the table: a job "level L" removes the image at L and frees an entry left without an
image (R37), a job "all levels" frees the entry (R38). -/
def ClaimTable.restored (t : ClaimTable) (i : Fin 256) (kind : JobKind) : ClaimTable :=
  match kind with
  | .all => t.put i none
  | .level l => t.update i fun c =>
      let m := putImage c.images l none
      if m = noImages then none else some { c with images := m }

/-! ## Request queue and response path -/

/-- Begun and unfinished. -/
def begunStage : Stage → Bool
  | .waiting => false
  | .finished => false
  | .readHazard => true
  | .readAccess => true
  | .plain => true
  | .preRead => true
  | .append => true
  | .target => true
  | .marker => true

/-- Begun and unfinished requests of a port: its window (R150). -/
def HostPort.begun (h : HostPort) : Nat := h.queue.countP fun e => begunStage e.stage

/-- Place of the begun and unfinished READ or WRITE of a line. A port has at most one (R150, condition 3). -/
def HostPort.lineIndex (h : HostPort) (line : Nat) : Option Nat :=
  h.queue.findIdx? fun e => begunStage e.stage && reqKind e.req != .mark && reqLine e.req == line

/-- Place of the begun and unfinished MARK. A port has at most one (R150, condition 4). -/
def HostPort.markIndex (h : HostPort) : Option Nat :=
  h.queue.findIdx? fun e => begunStage e.stage && reqKind e.req == .mark

/-- The request at a place finishes: its response is formed and placed on the path (R151), or dropped with its place when
it is withheld (R153). -/
def HostPort.finishAt (h : HostPort) (i : Nat) (code : RespCode) (data : LineData) : HostPort :=
  match h.queue[i]? with
  | none => h
  | some e =>
    if e.withheld then { h with queue := h.queue.eraseIdx i }
    else { h with queue := h.queue.set i { e with stage := .finished }, path := h.path ++ [⟨e.req.tag, code, data, false⟩] }

/-- The request at a place reaches a stage. -/
def HostPort.stageAt (h : HostPort) (i : Nat) (stage : Stage) : HostPort :=
  { h with queue := h.queue.modify i fun e => { e with stage := stage } }

/-- The begun READ or WRITE of a line is answered. -/
def Device.answerLine (d : Device) (p : Port) (line : Nat) (code : RespCode) (data : LineData) : Device :=
  d.onHost p fun h => match h.lineIndex line with
    | some i => h.finishAt i code data
    | none => h

/-- The begun MARK of a port is answered. -/
def Device.answerMark (d : Device) (p : Port) (code : RespCode) : Device :=
  d.onHost p fun h => match h.markIndex with
    | some i => h.finishAt i code 0#512
    | none => h

/-- The begun READ or WRITE of a line reaches a stage. -/
def Device.stageLine (d : Device) (p : Port) (line : Nat) (stage : Stage) : Device :=
  d.onHost p fun h => match h.lineIndex line with
    | some i => h.stageAt i stage
    | none => h

/-! ## Asking the arbiter (R155) -/

/-- A begun request of port p asks for an access; it joins the port's waiting accesses (R156). -/
def Device.askHost (d : Device) (p : Port) (a : Access) : Device :=
  { d with array := { d.array with hostReq := d.array.hostReq.set p (d.array.hostReq.get p ++ [a]) } }

/-- The anchor unit asks for an access. -/
def Device.askAnchor (d : Device) (a : Access) : Device := { d with array := { d.array with anchorReq := some a } }

/-- The journal writer asks for an access. -/
def Device.askJournal (d : Device) (a : Access) : Device := { d with array := { d.array with journalReq := some a } }

/-- The rollback engine asks for an access. -/
def Device.askRollback (d : Device) (a : Access) : Device := { d with array := { d.array with rollbackReq := some a } }

/-- The recovery engine asks for an access. -/
def Device.askRecovery (d : Device) (a : Access) : Device := { d with array := { d.array with recoveryReq := some a } }

/-! ## The journal's arithmetic -/

/-- Journal cells: twice the journal lines (R41). -/
def Journal.cells (j : Journal) : Nat := 2 * j.lines

/-- Distance forward from cell a to cell b, modulo the journal cells (R41). -/
def Journal.dist (j : Journal) (a b : Nat) : Nat := (b + j.cells - a % j.cells) % j.cells

/-- The array line that holds a cell (R41). -/
def Journal.lineOf (j : Journal) (c : Nat) : Nat := j.base + c / 2

/-- The live tail and its sequence (R53). -/
def Journal.liveTail (j : Journal) : TreeStart :=
  match j.treeStart.p0, j.treeStart.p1 with
  | none, none => ⟨j.head, j.nextSeq⟩
  | some a, none => a
  | none, some b => b
  | some a, some b => if j.dist b.position j.head ≤ j.dist a.position j.head then a else b

/-- Free cells against the anchored tail (R55). -/
def Journal.freeAnchored (j : Journal) : Nat := j.cells - j.dist j.tail j.head

/-- Free cells against the live tail (R55). -/
def Journal.freeLive (j : Journal) : Nat := j.cells - j.dist j.liveTail.position j.head

/-- The lag: distance forward from the anchored tail to the live tail (R56). -/
def Journal.lag (j : Journal) : Nat := j.dist j.tail j.liveTail.position

/-- The journal writer asks the anchor unit for an update, unless its request is outstanding (R56). -/
def Device.askUpdate (d : Device) : Device :=
  if d.anchor.writerReq = .none then { d with anchor := { d.anchor with writerReq := .pending } } else d

/-- The lag check (R56): no request while FAULTED (R61), in STOPPING (R63) or in RECOVERING (R62). -/
def Device.lagCheck (d : Device) : Device :=
  if d.part = .running ∧ d.journal.faulted = false ∧ d.journal.cells ≤ 8 * d.journal.lag then d.askUpdate else d

/-- The JLOW check after a durable append (R58): the margin is the free cells against the live tail less the reserve. -/
def Device.jlowCheck (d : Device) : Device :=
  if d.journal.freeLive - Config.journalReserve < d.journal.lowWater then d.latch .jlow else d

/-- Recompute the live tail on request of the scope unit: the tree start of a port whose stack is empty is cleared
(R53), then the lag is checked (R56). -/
def Device.recompute (d : Device) (p : Port) : Device :=
  let d := if (d.scope.get p).stack = [] then
      { d with journal := { d.journal with treeStart := d.journal.treeStart.set p none } }
    else d
  d.lagCheck

/-- An item joins the append queue (R48). -/
def Device.enqueue (d : Device) (i : Item) : Device :=
  { d with journal := { d.journal with queue := d.journal.queue ++ [i] } }

/-- The journal becomes, or stays, FAULTED with JFAULT and MEDIA latched (R60, R61, R118, R135). -/
def Device.faultJournal (d : Device) : Device :=
  (({ d with journal := { d.journal with faulted := true } }).latch .jfault).latch .media

/-! ## Port states, timer, forced abandon -/

/-- The rollback job of a port, waiting or running. -/
def Device.jobOf (d : Device) (p : Port) : Option Job := d.rollback.jobs.find? fun j => j.port == p

/-- A job of a forced abandon of the port is queued or running: a job "all levels". -/
def Device.forcedJob (d : Device) (p : Port) : Bool := d.rollback.jobs.any fun j => j.port == p && j.kind == .all

/-- A forced abandon is taken (R18): only in RUNNING, only for a port that is not WEDGED and has none pending, queued or
running. It is recorded with its cause and the timer stops. -/
def Device.takeForced (d : Device) (p : Port) (cause : AbandonCause) : Device :=
  if d.part = .running ∧ (d.scope.get p).state ≠ .wedged ∧ (d.scope.get p).pendingAbandon = none ∧
      d.forcedJob p = false then
    d.onScope p fun s => { s with pendingAbandon := some cause, running := false }
  else d

/-- A port in RESETTING becomes ACTIVE when its line is released and it has no pending abandon and no job; the noted
reset is then cleared (R14). -/
def Device.settle (d : Device) (p : Port) : Device :=
  if (d.scope.get p).state = .resetting ∧ (d.host.get p).hrst = false ∧ (d.scope.get p).pendingAbandon = none ∧
      d.jobOf p = none then
    d.onScope p fun s => { s with state := .active, resetNoted := false }
  else d

/-- A port becomes WEDGED (R13): timer stopped, noted reset cleared, WEDGEDn latched, stack and claims as they were. -/
def Device.wedge (d : Device) (p : Port) : Device :=
  (d.onScope p fun s => { s with state := .wedged, running := false, resetNoted := false }).latch (.wedged p)

/-- An expiry is taken, with the action that applies to the open scope (R16, R17). -/
def Device.takeExpiry (d : Device) (p : Port) : Device :=
  let d := d.latch (.aged p)
  match (d.scope.get p).scopeAction with
  | .alert => d.onScope p fun s => { s with expired := true }
  | .abandon => d.takeForced p .timer

/-- A running timer whose age has reached the limit that applies to the open scope, other than 0, no expiry with action
ALERT having been taken for this scope (R16, R17). -/
def expiryDue (s : ScopePort) : Bool :=
  s.running && decide (s.scopeLimit ≠ 0#16) && decide (s.scopeLimit.toNat ≤ s.age) && !s.expired

/-! ## Replies -/

/-- The slot is WORKING (R162). -/
def LinkController.isWorking (l : LinkController) : Bool :=
  match l.slot with
  | .empty => false
  | .working _ => true
  | .ready _ _ => false

/-- The command slot becomes READY with a reply; where it was WORKING, the work of its command has ended (R162). -/
def Device.reply (d : Device) (code : ReplyCode) (payload : List Byte) : Device :=
  { d with link := { d.link with slot := .ready code payload, ended := d.link.ended || d.link.isWorking } }

/-- Payload of a FORCE ABANDON reply (R174): scopes abandoned, lines restored. -/
def forcePayload (scopes lines : Nat) : List Byte := [byteOf scopes, 0#8] ++ bytes16Of lines

/-- The reply of the FORCE ABANDON of port p is made ready, if the slot holds one (R21). -/
def Device.forceReply (d : Device) (p : Port) (code : ReplyCode) (scopes lines : Nat) : Device :=
  if d.link.slot = .working (.force p) then d.reply code (forcePayload scopes lines) else d

/-! ## The end of a rollback job -/

/-- Outcomes of a job (Table 6-2). -/
inductive JobOutcome where
  | complete
  | restoreFailed
  | appendFailed
  | stopped
deriving DecidableEq, Repr

/-- The job leaves the queue; the line in hand of a running job is clear (R104). -/
def Device.dropJob (d : Device) (j : Job) : Device :=
  { d with rollback :=
    { jobs := d.rollback.jobs.filter fun x => x.port != j.port
      hand := if j.phase = .waiting then d.rollback.hand else none } }

/-- The port leaves its job complete: RESETTING when a reset has been noted, ACTIVE otherwise (R11, R19); a RESETTING
port is settled (R14). -/
def Device.leaveJob (d : Device) (p : Port) : Device :=
  if (d.scope.get p).resetNoted then (d.onScope p fun s => { s with state := .resetting }).settle p
  else d.onScope p fun s => { s with state := .active }

/-- A host abandon of level L is complete (R11): the top entry is popped, the live tail recomputed when L was 1; where a
reset was noted and scopes remain, a forced abandon PORTRESET is taken unless another is pending (R20). -/
def Device.hostAbandonDone (d : Device) (p : Port) (level : Nat) : Device :=
  let d := d.onScope p fun s => { s with stack := s.stack.tail }
  let d := if level = 1 then d.recompute p else d
  let d := if (d.scope.get p).resetNoted ∧ 1 ≤ d.depth p then d.takeForced p .portReset else d
  (d.leaveJob p).answerMark p .ok

/-- A job "all levels" is complete (R19): the stack is emptied, the live tail recomputed, a FORCE ABANDON answered with
the depth and the lines restored (R21). -/
def Device.forcedAbandonDone (d : Device) (p : Port) (lines : Nat) : Device :=
  let scopes := d.depth p
  let d := d.onScope p fun s => { s with stack := [] }
  ((d.recompute p).leaveJob p).forceReply p .done scopes lines

/-- A job ends and the scope unit acts on its outcome (R104, R11, R13, R19, R21). -/
def Device.endJob (d : Device) (j : Job) (o : JobOutcome) : Device :=
  let d := d.dropJob j
  match j.kind, o with
  | .level l, .complete => d.hostAbandonDone j.port l
  | .level _, .restoreFailed => (d.wedge j.port).answerMark j.port .media
  | .level _, .appendFailed => (d.wedge j.port).answerMark j.port .journalFault
  | .level _, .stopped => d.answerMark j.port .halted
  | .all, .complete => d.forcedAbandonDone j.port j.restored
  | .all, .restoreFailed => (d.wedge j.port).forceReply j.port .media (d.depth j.port) j.restored
  | .all, .appendFailed => (d.wedge j.port).forceReply j.port .media (d.depth j.port) j.restored
  | .all, .stopped => d

/-! ## Recovery fails -/

/-- Recovery fails (R135): the engine stops, the journal is FAULTED with JFAULT and MEDIA latched, the result is FAILED
with its cause, and the part enters FAILED; a part that is STOPPING stays so (R142). -/
def Device.failRecovery (d : Device) (cause : FailCause) : Device :=
  let d := d.faultJournal
  { d with
    recovery := { d.recovery with phase := .idle, result := .failed, cause := some cause }
    part := if d.part = .stopping then .stopping else .failed }

/-! ## Quiet -/

/-- The part is quiet (R74). -/
def Device.quiet (d : Device) : Bool :=
  decide (d.depth .p0 = 0) && decide (d.depth .p1 = 0) &&
  (d.host.p0.markIndex).isNone && (d.host.p1.markIndex).isNone &&
  d.claims.slots.toList.all Option.isNone &&
  d.rollback.jobs.isEmpty &&
  (d.scope.p0.pendingAbandon).isNone && (d.scope.p1.pendingAbandon).isNone &&
  d.journal.queue.isEmpty && (d.journal.append).isNone

end Sys2Proof.Machine
end

