-- ==== Sys2Proof/Machine/Recovery.lean ====
section
/-!
DEFINITION. The recovery engine (08_start_up_and_recovery.md sections 8.3 to 8.6): the forward scan, the scan stacks,
the prior-chain walk, the closing records, the end of recovery.
-/
namespace Sys2Proof.Machine

/-- Change the recovery engine. -/
def Device.onRecovery (d : Device) (f : RecoveryEngine → RecoveryEngine) : Device :=
  { d with recovery := f d.recovery }

/-- Change the scan state of a port. -/
def Device.onScan (d : Device) (p : Port) (f : ScanPort → ScanPort) : Device :=
  d.onRecovery fun r => { r with ports := r.ports.set p (f (r.ports.get p)) }

/-! ## Conditions on a record (R129) -/

/-- Condition 1: kind and length; an IMAGE or a PAD fits before the end of the journal. -/
def kindOk (cells c : Nat) (h : Header) : Bool :=
  ((h.kind == kindOpen || h.kind == kindClose) && h.length == 1#8) ||
  (h.kind == kindImage && h.length == 3#8 && decide (c + 3 ≤ cells)) ||
  (h.kind == kindPad && (h.length == 1#8 || h.length == 2#8) && decide (h.length.toNat = cells - c))

/-- Condition 5: port, level, code, prior and target line lie within their ranges. -/
def fieldsOk (d : Device) (h : Header) : Bool :=
  let j := d.journal
  let count := d.regions.lineCount.getD 0
  (h.port == 0#8 || h.port == 1#8) &&
  (if h.kind = kindPad then h.level == 0#8 else decide (1 ≤ h.level.toNat) && decide (h.level.toNat ≤ 4)) &&
  (if h.kind = kindClose then decide (1 ≤ h.code.toNat) && decide (h.code.toNat ≤ 7) else h.code == 0#8) &&
  (match priorOf h.prior with
    | none => true
    | some q => decide (q < j.cells)) &&
  (if h.kind = kindImage then
    decide (h.target.toNat < count) && decide (Config.anchorLines ≤ h.target.toNat) &&
      !(decide (j.base ≤ h.target.toNat) && decide (h.target.toNat < j.base + j.lines))
   else true)

/-- Conditions 4 and 5 (R129), and 6 in the scan. -/
def checkOk (h : Header) (body : Option LineData) : Bool := h.check == recordCheck h body

/-- The port a record names. -/
def headerPort (h : Header) : Port := if h.port = 0#8 then .p0 else .p1

/-! ## Matching (R131) -/

/-- What matching an accepted record gives: the new scan state of its port, or a mismatch (R132). An ignored record
leaves the stack and the last record as they are. -/
def matchRecord (s : ScanPort) (position : Nat) (h : Header) : Option ScanPort :=
  let prior := priorOf h.prior
  let level := h.level.toNat
  let entry : ScanEntry := ⟨level, h.serial, position, h.sequence⟩
  if h.kind = kindOpen then
    if s.started = false then
      if level = 1 ∧ prior = none then
        some { started := true, stack := [entry], last := some position, lastOpen := some h.serial }
      else some { s with lastOpen := some h.serial }
    else if level = s.stack.length + 1 ∧ prior = (if level = 1 then none else s.last) then
      some { s with stack := entry :: s.stack, last := some position, lastOpen := some h.serial }
    else none
  else if s.started = false then some s
  else
    match s.stack with
    | [] => none
    | top :: below =>
      if level = s.stack.length ∧ h.serial = top.serial ∧ prior = s.last then
        if h.kind = kindImage then some { s with last := some position }
        else if (h.code = closeValue .committed → level = 1) ∧ (h.code = closeValue .merged → 2 ≤ level) then
          some { s with stack := below, last := if below = [] then none else some position }
        else none
      else none

/-! ## The end of recovery (R134) -/

/-- Serial counter of a port after recovery: one more than its last OPEN serial, or 0 (R2, R134). -/
def counterAfter (s : ScanPort) : BitVec 16 :=
  match s.lastOpen with
  | some x => x + 1#16
  | none => 0#16

/-- Recovery is complete (R134): serial counters, result, RECOVERED; the part enters RUNNING, or stays STOPPING (R142). -/
def Device.recoveryComplete (d : Device) : Device :=
  let d := d.onScope .p0 fun s => { s with serialCounter := counterAfter d.recovery.ports.p0 }
  let d := d.onScope .p1 fun s => { s with serialCounter := counterAfter d.recovery.ports.p1 }
  let d := d.onRecovery fun r => { r with phase := .idle, result := if r.scopes = 0 then .clean else .rolledBack }
  let d : Device := { d with part := if d.part = .recovering then .running else d.part }
  d.latch .recovered

/-- Both ports are closed: the final anchor update is asked for when the head differs from the anchored tail (R134). -/
def Device.recoveryFinish (d : Device) : Device :=
  if d.journal.head = d.journal.tail then d.recoveryComplete
  else { d.onRecovery (fun r => { r with phase := .finalUpdate }) with anchor := { d.anchor with recoveryReq := .pending } }

/-- The closing record of the innermost level of a port's scan stack is handed over (R134). -/
def Device.handClosing (d : Device) (p : Port) (e : ScanEntry) : Device :=
  (d.onRecovery fun r => { r with phase := .closing p }).enqueue
    { source := .recovery, port := p, level := e.level, serial := e.serial, record := .close .abandonedRecovery }

/-- The closing records, port 0 and then port 1, innermost level first (R134). -/
def Device.nextClosing (d : Device) : Device :=
  match d.recovery.ports.p0.stack with
  | e :: _ => d.handClosing .p0 e
  | [] =>
    match d.recovery.ports.p1.stack with
    | e :: _ => d.handClosing .p1 e
    | [] => d.recoveryFinish

/-- A closing record is durable (R134): its level is closed; after the level-1 record the port's tree start is cleared.
In STOPPING nothing further is handed over (R142), and the final update is not asked for either (DESIGN CHOICE, log
entry 38). -/
def Device.recoveryDurable (d : Device) (i : Item) : Device :=
  let d := d.onScan i.port fun s => { s with stack := s.stack.tail }
  let d := if i.level = 1 then
      { d with journal := { d.journal with treeStart := d.journal.treeStart.set i.port none } }
    else d
  if d.part = .recovering then d.nextClosing else d.onRecovery fun r => { r with phase := .idle }

/-- A closing record is refused (R134, R135): CLOSE_APPEND, for JOURNAL_FULL too (DESIGN CHOICE, log entry 39). -/
def Device.recoveryRefused (d : Device) : Device := d.failRecovery .closeAppend

/-! ## The walk of the prior chains (R133) -/

/-- The engine asks for the line of the record at a position on a port's chain. -/
def Device.walkTo (d : Device) (p : Port) (position : Nat) : Device :=
  (d.onRecovery fun r => { r with phase := .walkHeader p position }).askRecovery (.readLine (d.journal.lineOf position))

/-- Both walks have ended: scopes rolled back is the total of the two stacks, and the closing records begin (R133,
R134). -/
def Device.walksDone (d : Device) : Device :=
  (d.onRecovery fun r => { r with scopes := r.ports.p0.stack.length + r.ports.p1.stack.length }).nextClosing

/-- The walk of a port begins at its last record; a port with an empty scan stack is not walked (R133). -/
def Device.walkPort (d : Device) (p : Port) (next : Device) : Device :=
  let s := d.recovery.ports.get p
  if s.stack = [] then next
  else match s.last with
    | some c => d.walkTo p c
    | none => d.failRecovery .chainCheck

/-- The walks: port 0 first and then port 1 (R133). -/
def Device.walkFromP1 (d : Device) : Device := d.walkPort .p1 d.walksDone

/-- The walks, from port 0. -/
def Device.walkFromP0 (d : Device) : Device := d.walkPort .p0 d.walkFromP1

/-- The walk goes on from a record (R133, step 4). -/
def Device.walkOn (d : Device) (p : Port) (position : Nat) (prior : Option Nat) : Device :=
  match prior with
  | some q => d.walkTo p q
  | none =>
    match d.journal.treeStart.get p with
    | some t =>
      if t.position = position then
        match p with
        | .p0 => d.walkFromP1
        | .p1 => d.walksDone
      else d.failRecovery .chainCheck
    | none => d.failRecovery .chainCheck

/-- The record at a position on a port's chain has been read: its checks, then the writing of an image (R133, steps 2
to 4). -/
def Device.walkRecord (d : Device) (p : Port) (position : Nat) (h : Header) (body : Option LineData) : Device :=
  if kindOk d.journal.cells position h && h.epoch == d.journal.epoch && checkOk h body && fieldsOk d h &&
      headerPort h == p then
    match body with
    | some image =>
      (d.onRecovery fun r => { r with phase := .walkWrite p position (priorOf h.prior), images := r.images + 1 }).askRecovery
        (.writeFull h.target.toNat image)
    | none => d.walkOn p position (priorOf h.prior)
  else d.failRecovery .chainCheck

/-- The header line of a record on a chain has been read: for an IMAGE that passes conditions 1 and 2 the line of its
last cell is asked for (R133 step 1, as R129 does). -/
def Device.walkHeaderRead (d : Device) (p : Port) (position : Nat) (line : LineData) : Device :=
  let h := decodeHeader (headerCell position line)
  if h.kind = kindImage then
    if kindOk d.journal.cells position h && h.epoch == d.journal.epoch then
      (d.onRecovery fun r => { r with phase := .walkBody p position line }).askRecovery
        (.readLine (d.journal.lineOf (position + 2)))
    else d.failRecovery .chainCheck
  else d.walkRecord p position h none

/-! ## The forward scan (R128 to R132) -/

/-- The tree start and last record of a port at the end of the scan (R130). -/
def scanTree (s : ScanPort) : Option TreeStart :=
  match s.stack.getLast? with
  | some e => some ⟨e.position, e.sequence⟩
  | none => none

/-- Last record of a port whose tree is open, absent otherwise (R130). -/
def scanLast (s : ScanPort) : Option Nat := if s.stack = [] then none else s.last

/-- The scan ends at its position: the journal writer takes head, next sequence, tree starts and last-record positions
(R130), and the walks begin. -/
def Device.scanEnds (d : Device) : Device :=
  let r := d.recovery
  let d := { d with journal := { d.journal with
    head := r.pos
    nextSeq := r.expected
    treeStart := ⟨scanTree r.ports.p0, scanTree r.ports.p1⟩
    last := ⟨scanLast r.ports.p0, scanLast r.ports.p1⟩ } }
  (d.onRecovery fun r => { r with scanEnd := some r.pos, phase := .idle }).walkFromP0

/-- The engine asks for the line of the record at the scan position (R129). -/
def Device.scanNext (d : Device) : Device :=
  (d.onRecovery fun r => { r with phase := .scanHeader }).askRecovery (.readLine (d.journal.lineOf d.recovery.pos))

/-- A record is taken into the scan (R129): after a PAD the scan goes on at cell 0. -/
def Device.scanTake (d : Device) (h : Header) : Device :=
  (d.onRecovery fun r => { r with
    records := r.records + 1
    expected := r.expected + 1#32
    cells := r.cells + h.length.toNat
    pos := if h.kind = kindPad then 0 else (r.pos + h.length.toNat) % d.journal.cells }).scanNext

/-- A record read at the scan position is tested under conditions 4, 5 and 6 of R129 and matched (R131, R132). -/
def Device.scanRecord (d : Device) (h : Header) (body : Option LineData) : Device :=
  if checkOk h body && fieldsOk d h && decide (d.recovery.cells + h.length.toNat < d.journal.cells) then
    if h.kind = kindPad then d.scanTake h
    else
      match matchRecord (d.recovery.ports.get (headerPort h)) d.recovery.pos h with
      | some s => (d.onScan (headerPort h) fun _ => s).scanTake h
      | none => (d.onRecovery fun r => { r with mismatch := true }).scanEnds
  else d.scanEnds

/-- The header line at the scan position has been read: conditions 1, 2 and 3 of R129, then for an IMAGE the second line
is asked for. -/
def Device.scanHeaderRead (d : Device) (line : LineData) : Device :=
  let h := decodeHeader (headerCell d.recovery.pos line)
  if kindOk d.journal.cells d.recovery.pos h && h.epoch == d.journal.epoch && h.sequence == d.recovery.expected then
    if h.kind = kindImage then
      (d.onRecovery fun r => { r with phase := .scanBody line }).askRecovery
        (.readLine (d.journal.lineOf (d.recovery.pos + 2)))
    else d.scanRecord h none
  else d.scanEnds

/-- Recovery begins (R128): the scan state of Table 8-3, and the first read. -/
def Device.startRecovery (d : Device) : Device :=
  (d.onRecovery fun r => { RecoveryEngine.cleared with
    pos := d.journal.tail
    expected := d.journal.tailSeq
    anchorError := r.anchorError }).scanNext

/-- The array's answer to an access of the recovery engine; none for an error or a timeout. In STOPPING the engine stops
once the access in hand has been answered (R142). -/
def Device.recoveryAnswer (d : Device) (answer : Option LineData) : Device :=
  match answer with
  | none =>
    match d.recovery.phase with
    | .scanHeader => d.failRecovery .scanRead
    | .scanBody _ => d.failRecovery .scanRead
    | .walkHeader _ _ => d.failRecovery .chainRead
    | .walkBody _ _ _ => d.failRecovery .chainRead
    | .walkWrite _ _ _ => d.failRecovery .imageWrite
    | .idle => d
    | .closing _ => d
    | .finalUpdate => d
  | some data =>
    if d.part = .recovering then
      match d.recovery.phase with
      | .scanHeader => d.scanHeaderRead data
      | .scanBody first =>
        d.scanRecord (decodeHeader (headerCell d.recovery.pos first)) (some (imageBody d.recovery.pos first data))
      | .walkHeader p c => d.walkHeaderRead p c data
      | .walkBody p c first =>
        d.walkRecord p c (decodeHeader (headerCell c first)) (some (imageBody c first data))
      | .walkWrite p c prior => d.walkOn p c prior
      | .idle => d
      | .closing _ => d
      | .finalUpdate => d
    else d.onRecovery fun r => { r with phase := .idle }

end Sys2Proof.Machine
end

