-- ==== Sys2Proof/Machine/Rollback.lean ====
section
/-!
DEFINITION. The rollback engine (06_rollback.md): taking a job, naming the next line, restoring it, closing the
abandoned scopes.
-/
namespace Sys2Proof.Machine

/-- The job of the same port in the queue is replaced. -/
def Device.setJob (d : Device) (j : Job) : Device :=
  { d with rollback := { d.rollback with jobs := d.rollback.jobs.map fun x => if x.port = j.port then j else x } }

/-- Whether a job restores an entry: of its port and holding an image at its level (R99), or any image (R100). -/
def jobWants (j : Job) (c : Claim) : Bool :=
  c.port == j.port && (match j.kind with
    | .level l => (imageAt c.images l).isSome
    | .all => (lowestImage c.images).isSome)

/-- The image position a job restores an entry from: the level's (R99), or the lowest held (R100). -/
def jobImage (j : Job) (c : Claim) : Option Nat :=
  match j.kind with
  | .level l => imageAt c.images l
  | .all => lowestImage c.images

/-- The next slot a job names, with its line and image position (R37, R38). -/
def Device.nextEntry (d : Device) (j : Job) : Option (Fin 256 × Nat × Nat) :=
  match d.claims.find j.cursor (jobWants j) with
  | none => none
  | some i =>
    match d.claims.slots[i] with
    | none => none
    | some c =>
      match jobImage j c with
      | none => none
      | some q => some (i, c.line, q)

/-- The CLOSE item of a job for a level (R103). -/
def Device.jobClose (d : Device) (j : Job) (level : Nat) : Item :=
  { source := .rollback, port := j.port, level := level, serial := serialAt (d.scope.get j.port).stack level,
    record := .close j.cause }

/-- The job enters CLOSING and hands over its first CLOSE record (R99, R100, R103). A job "all levels" of a port with no
open level has no record to append and is complete. -/
def Device.startClosing (d : Device) (j : Job) : Device :=
  let level := match j.kind with
    | .level l => l
    | .all => d.depth j.port
  if level = 0 then d.endJob { j with phase := .closing } .complete
  else (d.setJob { j with phase := .closing }).enqueue (d.jobClose j level)

/-- A search of the claim table (R99, R100), before which the journal state is read (R106). An entry named becomes the
line in hand and its record's first line is asked for (R101); none left ends RESTORING. -/
def Device.search (d : Device) (j : Job) : Device :=
  if d.journal.faulted then d.endJob j .appendFailed
  else match d.nextEntry j with
    | none => d.startClosing j
    | some (i, line, q) =>
      let d := d.setJob j
      let d := { d with rollback := { d.rollback with hand := some ⟨i, line, q, .readHeader⟩ } }
      d.askRollback (.readLine (d.journal.lineOf q))

/-- The engine takes the front job (R98) and begins its first search; it is idle when the front job is WAITING. A job is
taken in RUNNING alone (R97, R109). -/
def Device.takeJob (d : Device) : Device :=
  match d.rollback.jobs with
  | [] => d
  | j :: _ =>
    if j.phase = .waiting ∧ d.part = .running then d.search { j with phase := .restoring } else d

/-- The restore of the line in hand has failed (R105). -/
def Device.restoreFailed (d : Device) (j : Job) : Device := (d.latch .media).endJob j .restoreFailed

/-- The line in hand has been written (R102): it is reported to the claim table, the line in hand is clear, and the
engine searches again; in STOPPING the job ends stopped (R109). -/
def Device.lineRestored (d : Device) (j : Job) (h : InHand) : Device :=
  let j := { j with restored := j.restored + 1, cursor := h.slot.val + 1 }
  let d := { d with claims := d.claims.restored h.slot j.kind, rollback := { d.rollback with hand := none } }
  if d.part = .stopping then d.endJob j .stopped else d.search j

/-- The checks on the IMAGE record a line is restored from (R101): kind, length of its kind (R173), target line, check. -/
def restoreChecks (h : InHand) (hd : Header) (body : LineData) : Bool :=
  hd.kind == kindImage && hd.length == 3#8 && hd.target.toNat == h.line && hd.check == recordCheck hd (some body)

/-- The array's answer to an access of the rollback engine; none for an error or a timeout (R101, R102, R105). -/
def Device.rollbackAnswer (d : Device) (answer : Option LineData) : Device :=
  match d.rollback.jobs, d.rollback.hand with
  | j :: _, some h =>
    match answer with
    | none => d.restoreFailed j
    | some data =>
      match h.step with
      | .readHeader =>
        let d := { d with rollback := { d.rollback with hand := some { h with step := .readBody data } } }
        d.askRollback (.readLine (d.journal.lineOf (h.position + 2)))
      | .readBody first =>
        let hd := decodeHeader (headerCell h.position first)
        let body := imageBody h.position first data
        if restoreChecks h hd body then
          let d := { d with rollback := { d.rollback with hand := some { h with step := .write } } }
          d.askRollback (.writeFull h.line body)
        else d.restoreFailed j
      | .write => d.lineRestored j h
  | _, _ => d

/-- A CLOSE record of a job is durable (R103, R109). -/
def Device.rollbackDurable (d : Device) (i : Item) : Device :=
  match d.jobOf i.port with
  | none => d
  | some j =>
    match j.kind with
    | .level _ => d.endJob j .complete
    | .all =>
      let j := { j with closed := j.closed + 1 }
      if i.level ≤ 1 then d.endJob j .complete
      else if d.part = .stopping then d.endJob j .stopped
      else (d.setJob j).enqueue (d.jobClose j (i.level - 1))

/-- A CLOSE item of a job is refused (R103): the job ends append failed, in STOPPING too (DESIGN CHOICE, log entry 40). -/
def Device.rollbackRefused (d : Device) (i : Item) : Device :=
  match d.jobOf i.port with
  | none => d
  | some j => d.endJob j .appendFailed

/-- A CLOSE item of a job is dropped in STOPPING (R63, R103). -/
def Device.rollbackDropped (d : Device) (i : Item) : Device :=
  match d.jobOf i.port with
  | none => d
  | some j => d.endJob j .stopped

end Sys2Proof.Machine
end

