-- ==== Sys2Proof/Machine/Writer.lean ====
section
/-!
DEFINITION. The journal writer (03_the_journal.md): taking an item (R49), issuing an append (R42, R43, R50), a durable
append and what its requester does (R31, R5, R7, R8, R103, R134), refusals (R6, R9, R32, R60), and the journal becoming
FAULTED (R60).
-/
namespace Sys2Proof.Machine

/-! ## Space (R49) -/

/-- Length of a record in cells (R42). -/
def itemLength : ItemRecord → Nat
  | .openScope => 1
  | .image _ _ => 3
  | .close _ => 1

/-- PAD length in front of an item: for an IMAGE with fewer than 3 cells left to the end of the journal, that number of
cells (R49, R59). -/
def Journal.padFor (j : Journal) (r : ItemRecord) : Nat :=
  match r with
  | .image _ _ => if j.cells - j.head < 3 then j.cells - j.head else 0
  | .openScope => 0
  | .close _ => 0

/-- The need of an item (R49). -/
def Journal.need (j : Journal) (r : ItemRecord) : Nat :=
  match r with
  | .close _ => 2
  | .openScope => 1 + Config.journalReserve
  | .image l d => 3 + j.padFor (.image l d) + Config.journalReserve

/-! ## The record and its writes (R42, R43, R46, R47) -/

/-- The header the writer fills for an item (R43), before its check: the sequence is that after a PAD where one is
written. -/
def Journal.headerOf (j : Journal) (i : Item) : Header :=
  { kind := match i.record with
      | .openScope => kindOpen
      | .image _ _ => kindImage
      | .close _ => kindClose
    port := BitVec.ofNat 8 i.port.num
    level := BitVec.ofNat 8 i.level
    code := match i.record with
      | .openScope => 0#8
      | .image _ _ => 0#8
      | .close c => closeValue c
    epoch := j.epoch
    serial := i.serial
    sequence := if j.padFor i.record = 0 then j.nextSeq else j.nextSeq + 1#32
    prior := match i.record with
      | .openScope => if i.level = 1 then priorAbsent else priorField (j.last.get i.port)
      | .image _ _ => priorField (j.last.get i.port)
      | .close _ => priorField (j.last.get i.port)
    target := match i.record with
      | .openScope => 0#32
      | .image l _ => BitVec.ofNat 32 l
      | .close _ => 0#32
    length := BitVec.ofNat 8 (itemLength i.record)
    zero := 0#56
    check := 0#32 }

/-- The header of the PAD in front of an IMAGE (R43, R59). -/
def Journal.padHeader (j : Journal) (i : Item) : Header :=
  { kind := kindPad, port := BitVec.ofNat 8 i.port.num, level := 0#8, code := 0#8, epoch := j.epoch, serial := 0#16,
    sequence := j.nextSeq, prior := priorAbsent, target := 0#32, length := BitVec.ofNat 8 (j.padFor i.record),
    zero := 0#56, check := 0#32 }

/-- A header with its check (R47). -/
def sealHeader (h : Header) (body : Option LineData) : CellData :=
  encodeHeader { h with check := recordCheck h body }

/-- The writes of a PAD (R42, R59): none, a partial-line write of the last cell, or a full-line write of the last line. -/
def Journal.padWrites (j : Journal) (i : Item) : List Access :=
  let cell := sealHeader (j.padHeader i) none
  match j.padFor i.record with
  | 0 => []
  | 1 => [writeCell j.base j.head cell]
  | _ => [.writeFull (j.lineOf j.head) (joinCells cell 0#256)]

/-- The cell at which the header of an item's record is written: the head, or cell 0 after a PAD (R50, R59). -/
def Journal.positionFor (j : Journal) (i : Item) : Nat := if j.padFor i.record = 0 then j.head else 0

/-- The writes of the record itself, lower-numbered line first (R42). -/
def Journal.recordWrites (j : Journal) (i : Item) : List Access :=
  let h := j.positionFor i
  match i.record with
  | .openScope => [writeCell j.base h (sealHeader (j.headerOf i) none)]
  | .close _ => [writeCell j.base h (sealHeader (j.headerOf i) none)]
  | .image _ body =>
    let cell := sealHeader (j.headerOf i) (some body)
    if h % 2 = 0 then
      [.writeFull (j.lineOf h) (joinCells cell (halfOf body false)), writeCell j.base (h + 2) (halfOf body true)]
    else [writeCell j.base h cell, .writeFull (j.lineOf (h + 1)) body]

/-- The writes of an append (R50): the PAD's first, then the record's. -/
def Journal.appendWrites (j : Journal) (i : Item) : List Access := j.padWrites i ++ j.recordWrites i

/-- The append is issued (R50): the item leaves the queue and its first write is asked for. -/
def Device.issueAppend (d : Device) (i : Item) (behind : List Item) : Device :=
  let j := d.journal
  match j.appendWrites i with
  | [] => d
  | first :: rest =>
    ({ d with journal := { j with queue := behind, held := none,
                                  append := some ⟨i, j.padFor i.record, j.positionFor i, rest⟩ } }).askJournal first

/-! ## Durable (R50) -/

/-- What the writer itself does when an append is durable (R50, R45, R46, R53). -/
def Journal.afterAppend (j : Journal) (a : Append) : Journal :=
  let sequence := if a.pad = 0 then j.nextSeq else j.nextSeq + 1#32
  { j with
    head := (a.position + itemLength a.item.record) % j.cells
    nextSeq := sequence + 1#32
    last := j.last.set a.item.port (some a.position)
    treeStart := match a.item.record with
      | .openScope => if a.item.level = 1 then j.treeStart.set a.item.port (some ⟨a.position, sequence⟩) else j.treeStart
      | .image _ _ => j.treeStart
      | .close _ => j.treeStart
    append := none }

/-- A write's IMAGE is durable (R31, R84, R85): the image is set, the entry HELD, IMAGES advances, and the target write
is asked for. -/
def Device.imageDurable (d : Device) (p : Port) (level line position : Nat) : Device :=
  let d := { d with claims := d.claims.setImage line level position }
  let d := d.countImage p
  match (d.host.get p).lineIndex line with
  | none => d
  | some i =>
    match (d.host.get p).queue[i]? with
    | none => d
    | some e => (d.stageLine p line .target).askHost p (writeAccess e.req)

/-- A marker's OPEN is durable (R5): push, advance the counter, start the timer of a level-1 scope unless a forced
abandon is pending or the part is STOPPING, answer OK. The limit and action then set apply to that scope (R17). -/
def Device.openDurable (d : Device) (i : Item) (position : Nat) : Device :=
  let d := d.onScope i.port fun s => { s with
    stack := ⟨i.serial, position⟩ :: s.stack
    serialCounter := s.serialCounter + 1#16 }
  let d := if i.level = 1 then
      d.onScope i.port fun s => { s with
        age := 0, scopeLimit := s.limit, scopeAction := s.action, expired := false
        running := s.pendingAbandon.isNone && decide (d.part ≠ .stopping) }
    else d
  d.answerMark i.port .ok

/-- A marker's CLOSE MERGED is durable (R7). -/
def Device.mergeDurable (d : Device) (p : Port) (level : Nat) : Device :=
  let d := { d with claims := d.claims.merge p level }
  (d.onScope p fun s => { s with stack := s.stack.tail }).answerMark p .ok

/-- A marker's CLOSE COMMITTED is durable: the point of commit (R8). -/
def Device.commitDurable (d : Device) (p : Port) : Device :=
  let d := { d with claims := d.claims.freeAll p }
  let d := d.onScope p fun s => { s with stack := s.stack.tail }
  ((d.recompute p).countCommit p).answerMark p .ok

/-- The requester of an append is told that it is durable at a position (R50). -/
def Device.tellDurable (d : Device) (i : Item) (position : Nat) : Device :=
  match i.source with
  | .write =>
    match i.record with
    | .image line _ => d.imageDurable i.port i.level line position
    | .openScope => d
    | .close _ => d
  | .marker =>
    match i.record with
    | .openScope => d.openDurable i position
    | .close code => if code = .committed then d.commitDurable i.port else d.mergeDurable i.port i.level
    | .image _ _ => d
  | .rollback => d.rollbackDurable i
  | .recovery => d.recoveryDurable i

/-- An append is durable (R50), with the JLOW check (R58) and the lag check (R56) before the requester acts on it. -/
def Device.appendDurable (d : Device) (a : Append) : Device :=
  let d := { d with journal := d.journal.afterAppend a }
  (d.jlowCheck.lagCheck).tellDurable a.item a.position

/-! ## Refusals -/

/-- A level-1 CLOSE has failed (R9): the timer runs again unless a forced abandon is pending or the part is STOPPING,
and an expiry that is due under the limit and action of the scope is taken at once (R17; log entry 8). -/
def Device.rerunTimer (d : Device) (p : Port) : Device :=
  if (d.scope.get p).pendingAbandon = none ∧ d.part ≠ .stopping then
    let d := d.onScope p fun s => { s with running := true }
    if expiryDue (d.scope.get p) then d.takeExpiry p else d
  else d

/-- The requester of an item is told the refusal (R49, R6, R9, R32, R84, R103, R134). -/
def Device.refuseItem (d : Device) (code : RespCode) (i : Item) : Device :=
  match i.source with
  | .write =>
    match i.record with
    | .image line _ => { d with claims := d.claims.undo line }.answerLine i.port line code 0#512
    | .openScope => d
    | .close _ => d
  | .marker =>
    let d := d.answerMark i.port code
    match i.record with
    | .openScope => d
    | .close _ => if i.level = 1 then d.rerunTimer i.port else d
    | .image _ _ => d
  | .rollback => d.rollbackRefused i
  | .recovery => d.recoveryRefused

/-- Every item in the queue is refused JOURNAL_FAULT, in queue order (R60). -/
def Device.refuseQueue (d : Device) : Device :=
  let items := d.journal.queue
  items.foldl (fun d i => d.refuseItem .journalFault i) { d with journal := { d.journal with queue := [], held := none } }

/-- The append in progress has failed (R60): the journal becomes FAULTED, the requester is refused JOURNAL_FAULT, then
every other item. -/
def Device.appendFailed (d : Device) (a : Append) : Device :=
  let d := { d with journal := { d.journal with append := none } }
  (d.faultJournal.refuseItem .journalFault a.item).refuseQueue

/-- The array's answer to an access of the journal writer; none for an error or a timeout (R50, R60). -/
def Device.journalAnswer (d : Device) (answer : Option LineData) : Device :=
  match d.journal.append with
  | none => d
  | some a =>
    match answer with
    | none => d.appendFailed a
    | some _ =>
      match a.rest with
      | next :: rest =>
        ({ d with journal := { d.journal with append := some { a with rest := rest } } }).askJournal next
      | [] => d.appendDurable a

/-! ## Taking an item (Table 3-5) -/

/-- Table 3-5 applied to the front item. It is applied also to a closing record of recovery that lacks room after a scan of
records the writer did not write, though R62 and R134 have none such (DESIGN CHOICE, log entry 39). -/
def Device.applyTable (d : Device) (i : Item) (behind : List Item) : Device :=
  let j := d.journal
  let refuse (code : RespCode) : Device :=
    { d with journal := { j with queue := behind, held := none } }.refuseItem code i
  if j.faulted then refuse .journalFault
  else if j.need i.record ≤ j.freeAnchored then d.issueAppend i behind
  else if j.need i.record ≤ j.freeLive then
    if d.part ≠ .stopping then { d with journal := { j with held := some .request } }.askUpdate
    else if d.anchor.update.isSome then { d with journal := { j with held := some .updateEnd } }
    else refuse .halted
  else refuse .journalFull

/-- The writer takes the front item when no append is in progress and none is held (R49). -/
def Device.takeItem (d : Device) : Device :=
  match d.journal.queue with
  | [] => d
  | i :: behind => if d.journal.append = none ∧ d.journal.held = none then d.applyTable i behind else d

/-- The update a held item waited for has ended (R49): for one held for the writer's own request, an update that began
after that request (R56); for one held in STOPPING, the update then in progress (R63). -/
def Journal.releaseHold (j : Journal) (writerTold : Bool) : Journal :=
  match j.held with
  | none => j
  | some .request => if writerTold then { j with held := some .over } else j
  | some .updateEnd => { j with held := some .over }
  | some .over => j

/-- Table 3-5 is applied to the held item again (R49). -/
def Device.retakeItem (d : Device) : Device :=
  match d.journal.queue with
  | [] => d
  | i :: behind => if d.journal.append = none ∧ d.journal.held = some Hold.over then d.applyTable i behind else d

/-! ## Entering STOPPING (R63) -/

/-- Whether STOPPING drops an untaken item (R63). -/
def droppedAtStop (i : Item) : Bool :=
  match i.source with
  | .rollback => true
  | .recovery => true
  | .write => false
  | .marker => false

/-- An untaken item of the rollback engine or of the recovery engine is dropped and its engine told that the work was
stopped (R63). -/
def Device.dropItem (d : Device) (i : Item) : Device :=
  match i.source with
  | .rollback => d.rollbackDropped i
  | .recovery => d.onRecovery fun r => { r with phase := .idle }
  | .write => d
  | .marker => d

/-- An item of a write or a marker held for an update that had not begun is refused HALTED on entering STOPPING (R63). -/
def Device.refuseHeld (d : Device) : Device :=
  match d.journal.queue with
  | [] => d
  | i :: behind =>
    if d.journal.held = some Hold.request ∧ d.anchor.writerReq = UpdateReq.pending ∧ droppedAtStop i = false then
      { d with journal := { d.journal with queue := behind, held := none } }.refuseItem .halted i
    else d

/-- Untaken items of the rollback and recovery engines leave the queue and their engines are told (R63). -/
def Device.dropItems (d : Device) : Device :=
  let j := d.journal
  let held := match j.queue with
    | [] => none
    | i :: _ => if droppedAtStop i then none else j.held
  (j.queue.filter droppedAtStop).foldl (fun d i => d.dropItem i)
    { d with journal := { j with queue := j.queue.filter fun i => !droppedAtStop i, held := held } }

/-- The journal writer enters STOPPING (R63). -/
def Device.stopWriter (d : Device) : Device := d.refuseHeld.dropItems

end Sys2Proof.Machine
end

