-- ==== Sys2Proof/Machine/Anchor.lean ====
section
/-!
DEFINITION. The anchor unit (07_the_anchor_area.md): beginning an update (R114 to R116), its end (R117, R118), the
format copy (R121, R122), and the reads and the choice of copy in COLD (R113, R126).
-/
namespace Sys2Proof.Machine

/-- Change the anchor unit. -/
def Device.onAnchor (d : Device) (f : AnchorUnit → AnchorUnit) : Device := { d with anchor := f d.anchor }

/-- The other copy. -/
def Copy.other : Copy → Copy
  | .a => .b
  | .b => .a

/-- First line of a copy: A in lines 0 and 1, B in lines 2 and 3 (R112). -/
def copyBase : Copy → Nat
  | .a => 0
  | .b => 2

/-- Target copy of an update: the one that is not the newest valid copy, or A when there is none (R114). -/
def AnchorUnit.target (u : AnchorUnit) : Copy :=
  match u.newest with
  | some c => c.other
  | none => .a

/-- Generation written: the newest valid copy's plus one, or 1 (R114). -/
def AnchorUnit.nextGeneration (u : AnchorUnit) : BitVec 32 :=
  match u.newest with
  | some _ => u.generation + 1#32
  | none => 1#32

/-- A request is pending and not covered by the update in progress, or covered by it (R115; log entry 12). An accepted
FORMAT JOURNAL is the anchor unit's own request until it ends (Table 7-2, R56; log entry 41). -/
def AnchorUnit.requested (u : AnchorUnit) : Bool :=
  decide (u.writerReq ≠ .none) || decide (u.linkReq ≠ .none) || decide (u.recoveryReq ≠ .none) || u.format.isSome

/-- An update that begins now covers every request made before it (R115). -/
def coverReq : UpdateReq → UpdateReq
  | .none => .none
  | .pending => .covered
  | .covered => .covered

/-- The end of an update ends the requests it covers (R115). -/
def endReq : UpdateReq → UpdateReq
  | .none => .none
  | .pending => .pending
  | .covered => .none

/-- The values an update takes when it begins (R116). -/
def Device.setupInForce (d : Device) : Setup :=
  { epoch := d.journal.epoch, timeout := d.array.timeout, defaultMode := d.regions.defaultMode,
    arrayLines := d.regions.lineCount.getD 0, base := d.journal.base, lines := d.journal.lines,
    tail := d.journal.liveTail.position, tailSeq := d.journal.liveTail.sequence, lowWater := d.journal.lowWater,
    limit := ⟨d.scope.p0.limit, d.scope.p1.limit⟩, action := ⟨d.scope.p0.action, d.scope.p1.action⟩,
    regions := d.regions.entries }

/-- A line write of the copy in progress (R116). -/
def Update.write (u : Update) (second : Bool) : Access :=
  .writeFull (copyBase u.target + if second then 1 else 0) (copyLine (encodeCopy u.generation u.values) second)

/-- A copy write begins with its first line (R116, R122). -/
def Device.beginCopy (d : Device) (v : Setup) (purpose : Purpose) : Device :=
  let u : Update := ⟨d.anchor.target, d.anchor.nextGeneration, v, purpose, false⟩
  (d.onAnchor fun a => { a with update := some u }).askAnchor (u.write false)

/-- A request waits for an update to begin (R115). -/
def AnchorUnit.waiting (u : AnchorUnit) : Bool :=
  decide (u.writerReq = .pending) || decide (u.linkReq = .pending) || decide (u.recoveryReq = .pending)

/-- An update begins (R115, R116): none is in progress, a request waits, no FORMAT JOURNAL is in hand, and the part is
neither STOPPING nor SAFE (R120). -/
def Device.beginUpdate (d : Device) : Device :=
  if d.anchor.update = none ∧ d.anchor.format = none ∧ d.part ≠ .stopping ∧ d.part ≠ .safe ∧ d.anchor.waiting = true then
    let v := d.setupInForce
    let d := d.onAnchor fun a => { a with
      writerReq := coverReq a.writerReq, linkReq := coverReq a.linkReq, recoveryReq := coverReq a.recoveryReq }
    d.beginCopy v (if d.part = .recovering then .recovery else .running)
  else d

/-- The target copy becomes the newest valid one; the other is valid when it was the newest (R117). The anchored setup
takes the values written. -/
def AnchorUnit.copyDurable (a : AnchorUnit) (u : Update) : AnchorUnit :=
  { a with
    newest := some u.target
    generation := u.generation
    otherValid := a.newest.isSome
    setup := some u.values
    update := none }

/-- The requests an update covers are ended (R115). -/
def AnchorUnit.endCovered (a : AnchorUnit) : AnchorUnit :=
  { a with writerReq := endReq a.writerReq, linkReq := endReq a.linkReq, recoveryReq := endReq a.recoveryReq }

/-- The management command that waits for an update is answered (R119). -/
def Device.updateReply (d : Device) (code : ReplyCode) : Device :=
  if d.link.slot = .working .update then d.reply code [] else d

/-- An update is durable (R117). -/
def Device.updateDurable (d : Device) (u : Update) : Device :=
  let writerTold := decide (d.anchor.writerReq = .covered)
  let linkTold := d.anchor.linkReq = .covered
  let recoveryTold := d.anchor.recoveryReq = .covered
  let d := d.onAnchor fun a => (a.copyDurable u).endCovered
  let d := { d with journal :=
    { d.journal.releaseHold writerTold with tail := u.values.tail, tailSeq := u.values.tailSeq } }
  let d := d.countAnchorWrite
  let d := if linkTold then d.updateReply .done else d
  let d := if recoveryTold then d.recoveryComplete else d
  d.lagCheck

/-- The setup blocks take the values of a copy (R113, R122): region table, scope unit, arbiter. -/
def Device.loadSetup (d : Device) (v : Setup) : Device :=
  let d := d.onScope .p0 fun s => { s with limit := v.limit.p0, action := v.action.p0 }
  let d := d.onScope .p1 fun s => { s with limit := v.limit.p1, action := v.action.p1 }
  { d with
    regions := ⟨v.regions, v.defaultMode, some v.arrayLines⟩
    array := { d.array with timeout := v.timeout } }

/-- The format copy is durable (R122): new journal, setup and serial counters; the part is RUNNING, or stays STOPPING
(R142). -/
def Device.formatDurable (d : Device) (u : Update) : Device :=
  let d := d.onAnchor fun a => { a.copyDurable u with format := none }
  let d := d.countAnchorWrite
  let d := { d with journal := { Journal.cleared with
    base := u.values.base, lines := u.values.lines, lowWater := u.values.lowWater, epoch := u.values.epoch } }
  let d := d.loadSetup u.values
  let d := d.onScope .p0 fun s => { s with serialCounter := 0#16 }
  let d := d.onScope .p1 fun s => { s with serialCounter := 0#16 }
  let d := { d with part := if d.part = .stopping then .stopping else .running }
  if d.link.slot = .working .format then d.reply .done [] else d

/-- The first line of a copy, or the whole copy, is durable. -/
def Device.copyLineDone (d : Device) (u : Update) : Device :=
  if u.second then
    match u.purpose with
    | .running => d.updateDurable u
    | .recovery => d.updateDurable u
    | .format _ => d.formatDurable u
  else (d.onAnchor fun a => { a with update := some { u with second := true } }).askAnchor (u.write true)

/-- The target copy is recorded invalid and the write ends (R118). -/
def AnchorUnit.copyFailed (a : AnchorUnit) : AnchorUnit := { a with update := none, otherValid := false }

/-- An update made in RUNNING fails (R118): the journal becomes FAULTED, items are refused, a waiting management command
is answered MEDIA (R60, R61, R119). -/
def Device.updateFailed (d : Device) : Device :=
  let linkTold := d.anchor.linkReq = .covered
  let d := d.onAnchor fun a => a.copyFailed.endCovered
  let d := d.faultJournal.refuseQueue
  if linkTold then d.updateReply .media else d

/-- A copy write fails (R118, R122, R135). A failed format copy latches MEDIA (R122); accepted in RUNNING it makes the
journal FAULTED with JFAULT latched (R122), and it latches JFAULT again while the journal is FAULTED, as for one accepted in
FAILED (R61; log entry 37). One begun in RECOVERING fails the start with ANCHOR_WRITE, also where it was a space update for
a held closing record, which then stays held (DESIGN CHOICE, log entry 43). -/
def Device.copyWriteFailed (d : Device) (u : Update) : Device :=
  match u.purpose with
  | .running => d.updateFailed
  | .recovery => (d.onAnchor fun a => a.copyFailed.endCovered).failRecovery .anchorWrite
  | .format accepted =>
    let d := d.onAnchor fun a => { a.copyFailed with format := none }
    let d := d.latch .media
    let d :=
      if accepted = .running then d.faultJournal.refuseQueue
      else if d.journal.faulted then d.faultJournal
      else d
    if d.link.slot = .working .format then d.reply .media [] else d

/-! ## FORMAT JOURNAL (R121, R122) -/

/-- The epoch of the new journal (R121). -/
def AnchorUnit.formatEpoch (a : AnchorUnit) : BitVec 16 :=
  match a.setup with
  | some v => if v.epoch = 0xFFFF#16 then 1#16 else v.epoch + 1#16
  | none => 1#16

/-- The values of the format copy (R121): setup from the anchored setup, or as after reset. -/
def AnchorUnit.formatValues (a : AnchorUnit) (f : Format) : Setup :=
  match a.setup with
  | some v => { v with
      epoch := a.formatEpoch, arrayLines := f.arrayLines, base := f.base, lines := f.lines, tail := 0, tailSeq := 0#32,
      lowWater := f.lowWater }
  | none =>
    { epoch := a.formatEpoch, timeout := Config.resetTimeout, defaultMode := .pass, arrayLines := f.arrayLines,
      base := f.base, lines := f.lines, tail := 0, tailSeq := 0#32, lowWater := f.lowWater, limit := ⟨0#16, 0#16⟩,
      action := ⟨.alert, .alert⟩, regions := RegionTable.cleared.entries }

/-- An accepted FORMAT JOURNAL writes its copy once no update is in progress, discarding every pending request (R121,
R122); in STOPPING it writes none (R142). -/
def Device.formatCopy (d : Device) : Device :=
  match d.anchor.format with
  | none => d
  | some f =>
    if d.anchor.update = none ∧ d.part ≠ .stopping ∧ d.part ≠ .safe then
      let d := d.onAnchor fun a => { a with writerReq := .none, linkReq := .none, recoveryReq := .none }
      d.beginCopy (d.anchor.formatValues f) (.format f.acceptedIn)
    else d

/-! ## COLD (R113, R126) -/

/-- A copy read in COLD: none when one of its reads failed or it is not valid. -/
def coldCopy (first second : Option LineData) : Option (BitVec 32 × Setup) :=
  match first, second with
  | some x, some y => decodeCopy x y
  | _, _ => none

/-- The newest valid copy of two (R113): copy, generation, fields, and whether the other is valid. -/
def selectCopy (a b : Option (BitVec 32 × Setup)) : Option (Copy × BitVec 32 × Setup × Bool) :=
  match a, b with
  | none, none => none
  | some (g, v), none => some (.a, g, v, false)
  | none, some (g, v) => some (.b, g, v, false)
  | some (ga, va), some (gb, vb) =>
    if newerThan gb ga then some (.b, gb, vb, true) else some (.a, ga, va, true)

/-- The selected copy is loaded into the blocks that own its fields (R113). -/
def Device.loadCopy (d : Device) (c : Copy) (generation : BitVec 32) (v : Setup) (otherValid : Bool) : Device :=
  let d := d.onAnchor fun a => { a with
    newest := some c, generation := generation, otherValid := otherValid, setup := some v }
  let d := { d with journal := { d.journal with
    base := v.base, lines := v.lines, lowWater := v.lowWater, epoch := v.epoch, tail := v.tail, tailSeq := v.tailSeq } }
  d.loadSetup v

/-- The four reads have been answered: the choice of copy and the part's way on (R126). With neither copy valid the
timers are off and ALERT (R3). -/
def Device.anchorSelect (d : Device) (reads : List (Option LineData)) : Device :=
  let line (n : Nat) : Option LineData := (reads[n]?).getD none
  let d := d.onAnchor fun a => { a with cold := none }
  match selectCopy (coldCopy (line 0) (line 1)) (coldCopy (line 2) (line 3)) with
  | none =>
    let d := d.onScope .p0 fun s => { s with limit := 0#16, action := .alert }
    let d := d.onScope .p1 fun s => { s with limit := 0#16, action := .alert }
    { d with part := .unformatted }
  | some (c, g, v, other) =>
    let d := d.loadCopy c g v other
    if reads.all Option.isSome then
      let d := { d with part := .recovering }
      d.startRecovery
    else d.failRecovery .anchorRead

/-- A read of the anchor area is answered (R126): an error or timeout latches MEDIA and sets the anchor-error flag; the
next line is asked for until four are answered. In STOPPING no further read is made and nothing is selected (R142). -/
def Device.coldAnswer (d : Device) (reads : List (Option LineData)) (answer : Option LineData) : Device :=
  let d := match answer with
    | some _ => d
    | none => (d.latch .media).onRecovery fun r => { r with anchorError := true }
  let reads := reads ++ [answer]
  if d.part ≠ .cold then d.onAnchor fun a => { a with cold := none }
  else if reads.length < 4 then (d.onAnchor fun a => { a with cold := some reads }).askAnchor (.readLine reads.length)
  else d.anchorSelect reads

/-- The array's answer to an access of the anchor unit; none for an error or a timeout. -/
def Device.anchorAnswer (d : Device) (answer : Option LineData) : Device :=
  match d.anchor.cold with
  | some reads => d.coldAnswer reads answer
  | none =>
    match d.anchor.update with
    | none => d
    | some u =>
      match answer with
      | some _ => d.copyLineDone u
      | none => d.copyWriteFailed u

end Sys2Proof.Machine
end

