-- ==== Sys2Proof/Machine/HostPorts.lean ====
section
/-!
DEFINITION. The host ports and the write path (10_host_ports.md, 05_the_write_path.md, 04_regions_and_guarded_areas.md):
taking requests and responses, beginning READs and WRITEs, the answers of the array to host work; and the meanings of
REQUEST_TAKEN, RESPONSE_TAKEN, READ_BEGIN, READ_HAZARD_CLEAR, WRITE_BEGIN.
-/
namespace Sys2Proof.Machine

/-! ## Taking requests and responses -/

/-- A tag is outstanding: a request that holds it is in the queue and is not withheld (R147, R153). -/
def HostPort.tagOutstanding (h : HostPort) (tag : BitVec 3) : Bool :=
  h.queue.any fun e => !e.withheld && e.req.tag == tag

/-- The port takes a presented request when its queue has a free place and no TAG refusal waits on its path (R147). -/
def HostPort.canTake (h : HostPort) : Bool :=
  decide (h.queue.length < Config.queuePlaces) && !(h.path.any fun r => r.refusal)

/-- The port takes a presented request (R147), or discards it while HRST is asserted (R154). A request it cannot take
stays presented on the channel, outside the part. -/
def HostPort.take (h : HostPort) (r : Request) : HostPort :=
  if h.hrst then h
  else if h.canTake then
    if h.tagOutstanding r.tag then { h with path := h.path ++ [⟨r.tag, .tag, 0#512, true⟩] }
    else { h with queue := h.queue ++ [⟨r, .waiting, 0, false⟩] }
  else h

/-- The master takes the first response (R151): its queue place and tag are freed, unless it is a TAG refusal, which
holds none. -/
def HostPort.respond (h : HostPort) : HostPort :=
  match h.path with
  | [] => h
  | r :: rest =>
    if r.refusal then { h with path := rest }
    else { h with path := rest, queue := h.queue.eraseP fun e => e.stage == .finished && e.req.tag == r.tag }

/-- A response is taken, and a code other than OK advances the port's refusal counter for it (R152). -/
def Device.takeResponse (d : Device) (p : Port) : Device :=
  match (d.host.get p).path with
  | [] => d
  | r :: _ => (d.onHost p HostPort.respond).countRefusal p r.code

/-! ## Which request begins (Table 10-2, R150) -/

/-- The rows of Table 10-2. -/
inductive BeginRow where
  | hold
  | halted
  | wedged
  | normal
deriving DecidableEq, Repr

/-- The first row of Table 10-2 that matches. -/
def Device.beginRow (d : Device) (p : Port) : BeginRow :=
  let s := d.scope.get p
  if (d.host.get p).hrst then .hold
  else if d.part = .cold ∨ d.part = .recovering ∨ d.part = .stopping ∨ d.part = .safe then .halted
  else if s.state = .resetting then .halted
  else if d.anchor.format.isSome then .hold
  else if s.state = .unwinding ∨ s.pendingAbandon.isSome then .hold
  else if s.state = .wedged then .wedged
  else .normal

/-- An unfinished request. -/
def unfinished (e : Entry) : Bool := e.stage != .finished

/-- The request at place i of a queue is eligible to begin (R150, conditions 1 to 4). -/
def eligible (q : List Entry) (i : Nat) : Bool :=
  match q[i]? with
  | none => false
  | some e =>
    let earlier := q.take i
    let begun := q.countP fun x => begunStage x.stage
    e.stage == .waiting && decide (begun < Config.window) &&
    !(earlier.any fun x => reqKind x.req == .mark && unfinished x) &&
    (if reqKind e.req = .mark then !(earlier.any unfinished) && begun == 0
     else !(earlier.any fun x => reqKind x.req != .mark && reqLine x.req == reqLine e.req && unfinished x))

/-- The oldest eligible request (R150). -/
def oldestEligible (q : List Entry) : Option Nat := (List.range q.length).find? fun i => eligible q i

/-- The oldest eligible READ: what a WEDGED port begins under R150 (Table 10-2). -/
def oldestEligibleRead (q : List Entry) : Option Nat :=
  (List.range q.length).find? fun i => eligible q i && (match q[i]? with
    | some e => reqKind e.req == .read
    | none => false)

/-- The request of port p that begins next, if it is of the kind a command names, with the code it is answered at once:
HALTED or WEDGED (Table 10-2), none when its own checks follow. -/
def Device.nextBegin (d : Device) (p : Port) (wanted : Request → Bool) : Option (Nat × Entry × Option RespCode) :=
  let q := (d.host.get p).queue
  let pick (i : Option Nat) (code : Option RespCode) : Option (Nat × Entry × Option RespCode) :=
    match i with
    | none => none
    | some i =>
      match q[i]? with
      | none => none
      | some e => if wanted e.req then some (i, e, code) else none
  match d.beginRow p with
  | .hold => none
  | .halted => pick (q.findIdx? fun e => e.stage == .waiting) (some .halted)
  | .wedged =>
    match pick (q.findIdx? fun e => e.stage == .waiting && reqKind e.req != .read) (some .wedged) with
    | some x => some x
    | none => pick (oldestEligibleRead q) none
  | .normal => pick (oldestEligible q) none

/-- The request at a place is answered as it begins. -/
def Device.answerAt (d : Device) (p : Port) (i : Nat) (code : RespCode) : Device :=
  d.onHost p fun h => h.finishAt i code 0#512

/-- The request at a place begins: its stage, and the port's depth as its level (R77). -/
def Device.beginAt (d : Device) (p : Port) (i : Nat) (stage : Stage) : Device :=
  let level := d.depth p
  d.onHost p fun h => { h with queue := h.queue.modify i fun e => { e with stage := stage, level := level } }

/-! ## READs (R89, R91) -/

/-- The line lies at or beyond the array line count (R67); checked in RUNNING and FAILED alone. -/
def Device.outOfRange (d : Device) (line : Nat) : Bool :=
  (decide (d.part = .running) || decide (d.part = .failed)) &&
  (match d.regions.lineCount with
    | some n => decide (n ≤ line)
    | none => false)

/-- A line hazard holds a begun READ (R91): a PENDING entry for the line (R33) or the line in hand (R107). -/
def Device.hazard (d : Device) (line : Nat) : Bool :=
  d.claims.pendingOn line || (match d.rollback.hand with
    | some h => h.line == line
    | none => false)

/-- A READ begins (R89): SPLIT, RANGE, then the line hazards, then the arbiter. -/
def Device.beginRead (d : Device) (p : Port) : Device :=
  match d.nextBegin p fun r => reqKind r == .read with
  | none => d
  | some (i, _, some code) => d.answerAt p i code
  | some (i, e, none) =>
    if splitsLine e.req then d.answerAt p i .split
    else if d.outOfRange (reqLine e.req) then d.answerAt p i .range
    else if d.hazard (reqLine e.req) then d.beginAt p i .readHazard
    else (d.beginAt p i .readAccess).askHost p (.readLine (reqLine e.req))

/-- A begun READ whose hazard has ended goes on to the arbiter (R91). -/
def Device.clearHazard (d : Device) (p : Port) (line : Nat) : Device :=
  match (d.host.get p).lineIndex line with
  | none => d
  | some i =>
    match (d.host.get p).queue[i]? with
    | none => d
    | some e =>
      if e.stage = .readHazard ∧ d.hazard line = false then (d.stageLine p line .readAccess).askHost p (.readLine line)
      else d

/-! ## WRITEs (R78) -/

/-- What becomes of a begun WRITE after the checks made at begin (Table 5-2, Table 4-3, R72). -/
inductive WriteOutcome where
  | refused (code : RespCode)
  | forward
  | claim
deriving DecidableEq, Repr

/-- The line lies in the anchor area (R68). -/
def inAnchorArea (line : Nat) : Bool := decide (line < Config.anchorLines)

/-- The line lies in the journal area (R68). -/
def Journal.inArea (j : Journal) (line : Nat) : Bool := decide (j.base ≤ line) && decide (line < j.base + j.lines)

/-- The first enabled entry that covers a line gives mode and policy; else the default mode with policy REFUSE (R69). -/
def RegionTable.classify (t : RegionTable) (line : Nat) : Mode × Bool :=
  match t.entries.toList.find? fun r => r.enabled && decide (r.first ≤ line) && decide (line ≤ r.last) with
  | some r => (r.mode, r.allow)
  | none => (t.defaultMode, false)

/-- Orders 2 to 5 of Table 5-2 for a WRITE of port p. -/
def Device.writeOutcome (d : Device) (p : Port) (r : Request) : WriteOutcome :=
  let line := reqLine r
  if splitsLine r then .refused .split
  else if d.outOfRange line then .refused .range
  else if inAnchorArea line then .refused .guarded
  else if d.part = .unformatted then .forward
  else if d.journal.inArea line then .refused .guarded
  else
    match d.regions.classify line with
    | (.guard, _) => .refused .guarded
    | (.pass, _) => .forward
    | (.journal, allow) =>
      if d.part = .failed then .refused .journalFault
      else if d.depth p = 0 then
        if allow then (if d.claims.claimedByOther p line then .refused .claimed else .forward)
        else .refused .unscoped
      else .claim

/-- Outcomes of a claim request (Table 2-2). -/
inductive ClaimOutcome where
  | refused (code : RespCode)
  | pass
  | image (slot : Fin 256) (fresh : Bool)
deriving DecidableEq, Repr

/-- The claim table answers a claim request of port p at depth D (R27). -/
def Device.claimRequest (d : Device) (p : Port) (depth line : Nat) : ClaimOutcome :=
  match d.claims.slotOf line with
  | some i =>
    match d.claims.slots[i] with
    | none => .refused .claimed
    | some c =>
      if c.port ≠ p then .refused .claimed
      else if (imageAt c.images depth).isSome then .pass
      else if d.journal.faulted then .refused .journalFault
      else .image i false
  | none =>
    if d.journal.faulted then .refused .journalFault
    else match d.claims.freeSlot with
      | none => .refused .claimsFull
      | some i => .image i true

/-- The table's change for TAKE IMAGE (R27, R26): an entry becomes PENDING, or a new PENDING entry takes the lowest free
slot and CLAIMHIGH is latched when 224 or more are then in use. -/
def Device.takeImage (d : Device) (p : Port) (line : Nat) (slot : Fin 256) (fresh : Bool) : Device :=
  if fresh then
    let d := { d with claims := d.claims.put slot (some ⟨line, p, true, noImages⟩) }
    if Config.claimHigh ≤ d.claims.inUse then d.latch .claimHigh else d
  else { d with claims := d.claims.update slot fun c => some { c with recording := true } }

/-- A WRITE begins (R78): refused, forwarded as a plain write (R81), or journaled (R82). -/
def Device.beginWrite (d : Device) (p : Port) : Device :=
  match d.nextBegin p fun r => reqKind r == .write with
  | none => d
  | some (i, _, some code) => d.answerAt p i code
  | some (i, e, none) =>
    let line := reqLine e.req
    match d.writeOutcome p e.req with
    | .refused code => d.answerAt p i code
    | .forward => (d.beginAt p i .plain).askHost p (writeAccess e.req)
    | .claim =>
      match d.claimRequest p (d.depth p) line with
      | .refused code => d.answerAt p i code
      | .pass => (d.beginAt p i .plain).askHost p (writeAccess e.req)
      | .image slot fresh => ((d.takeImage p line slot fresh).beginAt p i .preRead).askHost p (.readLine line)

/-! ## Answers of the array to host work -/

/-- The IMAGE item of a journaled write, with its pre-image as body (R84). -/
def Device.imageItem (d : Device) (p : Port) (e : Entry) (body : LineData) : Item :=
  { source := .write, port := p, level := e.level,
    serial := match (d.scope.get p).stack with
      | s :: _ => s.serial
      | [] => 0#16
    record := .image (reqLine e.req) body }

/-- An access made for a request has failed: MEDIA is latched and the request answered MEDIA (R81, R86, R89). -/
def Device.hostMedia (d : Device) (p : Port) (line : Nat) : Device := (d.latch .media).answerLine p line .media 0#512

/-- The array's answer to an access of port p's begun request for a line; none for an error or a timeout (R81, R83, R86,
R89). -/
def Device.hostAnswer (d : Device) (p : Port) (line : Nat) (answer : Option LineData) : Device :=
  match (d.host.get p).lineIndex line with
  | none => d
  | some i =>
    match (d.host.get p).queue[i]? with
    | none => d
    | some e =>
      match e.stage, answer with
      | .readAccess, some data => d.answerLine p line .ok (readWords e.req data)
      | .readAccess, none => d.hostMedia p line
      | .plain, some _ => d.answerLine p line .ok 0#512
      | .plain, none => d.hostMedia p line
      | .preRead, some data => (d.stageLine p line .append).enqueue (d.imageItem p e data)
      | .preRead, none => { d with claims := d.claims.undo line }.hostMedia p line
      | .target, some _ => d.answerLine p line .ok 0#512
      | .target, none => d.hostMedia p line
      | .waiting, _ => d
      | .readHazard, _ => d
      | .append, _ => d
      | .marker, _ => d
      | .finished, _ => d

/-! ## Meanings -/

/-- REQUEST_TAKEN (R147, R154). -/
def execRequestTaken (p : Port) (r : Request) (s : State) : Host.Outcome State Fault Refusal :=
  .next { s with dev := s.dev.onHost p fun h => h.take r }

/-- RESPONSE_TAKEN (R151, R152). -/
def execResponseTaken (p : Port) (s : State) : Host.Outcome State Fault Refusal :=
  .next { s with dev := s.dev.takeResponse p }

/-- READ_BEGIN (R89). -/
def execReadBegin (p : Port) (s : State) : Host.Outcome State Fault Refusal :=
  .next { s with dev := s.dev.beginRead p }

/-- READ_HAZARD_CLEAR (R91). -/
def execReadHazardClear (p : Port) (line : BitVec 26) (s : State) : Host.Outcome State Fault Refusal :=
  .next { s with dev := s.dev.clearHazard p line.toNat }

/-- WRITE_BEGIN (R78). -/
def execWriteBegin (p : Port) (s : State) : Host.Outcome State Fault Refusal :=
  .next { s with dev := s.dev.beginWrite p }

end Sys2Proof.Machine
end

