-- ==== Sys2Proof/Machine/ArrayPorts.lean ====
section
/-!
DEFINITION. The array port and the arbiter (11_array_port_and_arbiter.md): granting (R156), answers, late responses and
timeouts (R157), errors (R158); the meanings of ACCESS_GRANT, ARRAY_ANSWER and ARRAY_RESPONSE_TIMEOUT.
-/
namespace Sys2Proof.Machine

/-- The port whose host work is granted (R156): with work of both waiting, the one not last granted. -/
def ArrayPort.hostChoice (a : ArrayPort) : Option Port :=
  match a.hostReq.p0, a.hostReq.p1 with
  | [], [] => none
  | _ :: _, [] => some .p0
  | [], _ :: _ => some .p1
  | _ :: _, _ :: _ => some a.lastHost.other

/-- The request granted next, by class order (R156), and the arbiter without it. -/
def ArrayPort.choose (a : ArrayPort) : Option (Access × Requester × ArrayPort) :=
  match a.anchorReq with
  | some x => some (x, .anchor, { a with anchorReq := none })
  | none =>
    match a.journalReq with
    | some x => some (x, .journal, { a with journalReq := none })
    | none =>
      match a.rollbackReq with
      | some x => some (x, .rollback, { a with rollbackReq := none })
      | none =>
        match a.recoveryReq with
        | some x => some (x, .recovery, { a with recoveryReq := none })
        | none =>
          match a.hostChoice with
          | none => none
          | some p =>
            match a.hostReq.get p with
            | [] => none
            | x :: rest => some (x, .host p, { a with hostReq := a.hostReq.set p rest, lastHost := p })

/-- The arbiter grants a waiting request when no access is outstanding (R156): the access number advances and travels
with it (R155), and it takes the timeout in force (R157). -/
def ArrayPort.grant (a : ArrayPort) : ArrayPort :=
  match a.outstanding with
  | some _ => a
  | none =>
    match a.choose with
    | none => a
    | some (x, who, a') =>
      { a' with outstanding := some ⟨x, who, a.number + 1#4, a.timeout⟩, number := a.number + 1#4 }

/-- The answer of an access is handed to its requester (R157); none for an error or a timeout. -/
def Device.deliver (d : Device) (o : Outstanding) (answer : Option LineData) : Device :=
  match o.requester with
  | .anchor => d.anchorAnswer answer
  | .journal => d.journalAnswer answer
  | .rollback => d.rollbackAnswer answer
  | .recovery => d.recoveryAnswer answer
  | .host p => d.hostAnswer p (accessLine o.access) answer

/-- The outstanding access ends. -/
def Device.endAccess (d : Device) : Device := { d with array := { d.array with outstanding := none } }

/-- The array returns an answer (R157): one with the number of the outstanding access ends it, any other is a late
response. An ERROR advances ARRAY_ERRORS (R158). -/
def Device.arrayAnswer (d : Device) (number : BitVec 4) (ok : Bool) (data : LineData) : Device :=
  match d.array.outstanding with
  | none => d.countLateResponse
  | some o =>
    if o.number = number then
      if ok then d.endAccess.deliver o (some data) else d.endAccess.countArrayError.deliver o none
    else d.countLateResponse

/-- The timer of the outstanding access runs out (R157). -/
def Device.arrayTimeout (d : Device) : Device :=
  match d.array.outstanding with
  | none => d
  | some o => d.endAccess.countArrayTimeout.deliver o none

/-- ACCESS_GRANT (R156). -/
def execAccessGrant (s : State) : Host.Outcome State Fault Refusal :=
  .next { s with dev := { s.dev with array := s.dev.array.grant } }

/-- ARRAY_ANSWER (R157). -/
def execArrayAnswer (number : BitVec 4) (ok : Bool) (data : LineData) (s : State) : Host.Outcome State Fault Refusal :=
  .next { s with dev := s.dev.arrayAnswer number ok data }

/-- ARRAY_RESPONSE_TIMEOUT (R157). -/
def execArrayResponseTimeout (s : State) : Host.Outcome State Fault Refusal :=
  .next { s with dev := s.dev.arrayTimeout }

end Sys2Proof.Machine
end

