-- ==== Sys2Proof/Decode.lean ====
section
/-!
DEFINITION. Decoding. `decodeTableWord` is over the rows of spec/opcode_table.json that give bits: none does, so it
answers none. The part does decode management frames (R161, R163, R164, Table 13-6): `decodeFrame` reads the bytes of
one frame, `encodeFrame` writes those of a command.
-/
namespace Sys2Proof

/-- No row of spec/opcode_table.json carries bits, so no word spells a command. -/
def decodeTableWord (_nbits _w : Nat) : Option Instr := none

/-- One bit of the frame check: CRC-8 with polynomial 07 hex, most significant bit first (R161). -/
def crc8Bit (c : Byte) (b : Bool) : Byte :=
  if c.getLsbD 7 != b then (c <<< 1) ^^^ 0x07#8 else c <<< 1

/-- One byte of the frame check, most significant bit first (13_formats.md 13.4). -/
def crc8Byte (c b : Byte) : Byte :=
  [7, 6, 5, 4, 3, 2, 1, 0].foldl (fun c i => crc8Bit c (b.getLsbD i)) c

/-- The frame check: initial value 00, not inverted (13_formats.md 13.4). -/
def crc8 (bytes : List Byte) : Byte := bytes.foldl crc8Byte 0#8

/-- The command codes of the part (Table 13-6). -/
def commandCodes : List Byte :=
  [0x01#8, 0x02#8, 0x03#8, 0x04#8, 0x05#8, 0x06#8, 0x07#8, 0x0F#8, 0x10#8, 0x11#8, 0x12#8,
   0x20#8, 0x21#8, 0x22#8, 0x23#8, 0x24#8, 0x30#8, 0x31#8, 0x3F#8]

/-- The command a code names (Table 13-6); a code that is not of the part is the row UNKNOWN (R164). -/
def commandOf (code : Byte) (f : Frame) : Instr :=
  if code = 0x01#8 then .getState f
  else if code = 0x02#8 then .getScope f
  else if code = 0x03#8 then .getClaims f
  else if code = 0x04#8 then .getRegion f
  else if code = 0x05#8 then .getJournal f
  else if code = 0x06#8 then .getAlerts f
  else if code = 0x07#8 then .getCounters f
  else if code = 0x0F#8 then .fetchReply f
  else if code = 0x10#8 then .ackAlerts f
  else if code = 0x11#8 then .setAlertMask f
  else if code = 0x12#8 then .clearCounters f
  else if code = 0x20#8 then .setRegion f
  else if code = 0x21#8 then .setDefaultMode f
  else if code = 0x22#8 then .setTimer f
  else if code = 0x23#8 then .setArrayTimeout f
  else if code = 0x24#8 then .syncAnchor f
  else if code = 0x30#8 then .formatJournal f
  else if code = 0x31#8 then .forceAbandon f
  else if code = 0x3F#8 then .resetPart f
  else .unknown code f

/-- The byte after the command code: exchange number in bits 4 to 7, length in units of 4 bytes in bits 0 to 3
(13_formats.md 13.4). -/
def lengthByte (exchange : BitVec 4) (bytes : Nat) : Byte := exchange ++ BitVec.ofNat 4 (bytes / 4)

/-- What a frame is when it ends, the command slot not being WORKING (R163): none for a deselection with no byte
clocked; cut short when it ends before its frame check or with a part-byte; BADCHECK when the check is wrong; else the
command its code names. Bytes beyond the frame check are only counted. Whether a good FETCH REPLY that ends with a
part-byte is cut short depends on the slot, so it goes to FETCH_REPLY with its part-byte (R163, R165; log entry 34). A
deselection after a part-byte alone counts as cut short (DESIGN CHOICE, log entry 35). -/
def decodeFrame (selected : Selection) (bytes : List Byte) (partByte : Bool) : Option Instr :=
  match bytes with
  | [] => if partByte then some (.frameCutShort ⟨selected, 1⟩) else none
  | [_] => some (.frameCutShort ⟨selected, 1⟩)
  | code :: len :: rest =>
    let n := 4 * (len.extractLsb' 0 4).toNat
    match rest.drop n with
    | [] => some (.frameCutShort ⟨selected, bytes.length⟩)
    | check :: extra =>
      let payload := rest.take n
      let f : Frame := ⟨selected, len.extractLsb' 4 4, payload, extra.length, partByte⟩
      let good := check == crc8 (code :: len :: payload)
      if partByte && !(good && code == 0x0F#8) then some (.frameCutShort ⟨selected, bytes.length⟩)
      else if good then some (commandOf code f) else some (.badCheck f)

/-- The code and frame of a command that a good frame carries. -/
def frameOf : Instr → Option (Byte × Frame)
  | .getState f => some (0x01#8, f)
  | .getScope f => some (0x02#8, f)
  | .getClaims f => some (0x03#8, f)
  | .getRegion f => some (0x04#8, f)
  | .getJournal f => some (0x05#8, f)
  | .getAlerts f => some (0x06#8, f)
  | .getCounters f => some (0x07#8, f)
  | .fetchReply f => some (0x0F#8, f)
  | .ackAlerts f => some (0x10#8, f)
  | .setAlertMask f => some (0x11#8, f)
  | .clearCounters f => some (0x12#8, f)
  | .setRegion f => some (0x20#8, f)
  | .setDefaultMode f => some (0x21#8, f)
  | .setTimer f => some (0x22#8, f)
  | .setArrayTimeout f => some (0x23#8, f)
  | .syncAnchor f => some (0x24#8, f)
  | .formatJournal f => some (0x30#8, f)
  | .forceAbandon f => some (0x31#8, f)
  | .resetPart f => some (0x3F#8, f)
  | .unknown code f => some (code, f)
  | .powerOn => none
  | .prstAssert => none
  | .prstRelease => none
  | .pwrwarnAssert => none
  | .pwrwarnRelease => none
  | .hrstAssert _ => none
  | .hrstRelease _ => none
  | .requestTaken _ _ => none
  | .responseTaken _ => none
  | .readBegin _ => none
  | .readHazardClear _ _ => none
  | .writeBegin _ => none
  | .openMark _ => none
  | .closeMark _ => none
  | .abandonMark _ => none
  | .accessGrant => none
  | .arrayAnswer _ _ _ => none
  | .arrayResponseTimeout => none
  | .takeAppendItem => none
  | .heldItemRetake => none
  | .scopeAgeExpiry _ => none
  | .forcedAbandonWaitEnd _ => none
  | .rollbackJobTake => none
  | .anchorUpdateBegin => none
  | .safeEntry => none
  | .formatCopyWrite => none
  | .frameWhileWorking _ => none
  | .frameCutShort _ => none
  | .badCheck _ => none
  | .markKindNone _ => none

/-- The bytes of a good frame (R161): code, exchange number and length, payload, frame check, then the bytes the
software goes on clocking (zeros here; they are not read). -/
def encodeFrame (code : Byte) (f : Frame) : List Byte :=
  let head := code :: lengthByte f.exchange f.payload.length :: f.payload
  head ++ crc8 head :: List.replicate f.extra 0#8

end Sys2Proof
end

