-- ==== Sys2Proof/Machine/Engines.lean ====
section
/-!
DEFINITION. The steps of the part's own blocks that are rows of the table: TAKE_APPEND_ITEM and HELD_ITEM_RETAKE (R49),
SCOPE_AGE_EXPIRY (R16), FORCED_ABANDON_WAIT_END (R19, R22), ROLLBACK_JOB_TAKE (R98), ANCHOR_UPDATE_BEGIN (R116),
FORMAT_COPY_WRITE (R122).
-/
namespace Sys2Proof.Machine

/-- The close code a forced abandon's cause becomes (section 1.5). -/
def causeCode : AbandonCause → CloseCode
  | .timer => .abandonedTimer
  | .forced => .abandonedForced
  | .portReset => .abandonedPortReset

/-- The pending abandon is cleared. -/
def Device.clearPending (d : Device) (p : Port) : Device := d.onScope p fun s => { s with pendingAbandon := none }

/-- A pending abandon of port p exists and no request of the port is begun and unfinished (R19). -/
def Device.waitOver (d : Device) (p : Port) : Bool :=
  (d.scope.get p).pendingAbandon.isSome && (d.host.get p).begun == 0

/-- The wait of a pending abandon ends in RUNNING: the first case of R19 that applies. -/
def Device.settleAbandon (d : Device) (p : Port) (cause : AbandonCause) : Device :=
  let depth := d.depth p
  if (d.scope.get p).state = .wedged then
    ((d.countForcedAbandon p).clearPending p).forceReply p .media depth 0
  else if depth = 0 then
    let d := d.clearPending p
    let d := if (d.scope.get p).state = .resetting then d.settle p else d.onScope p fun s => { s with state := .active }
    d.forceReply p .done 0 0
  else if d.journal.faulted then
    (((d.clearPending p).wedge p).countForcedAbandon p).forceReply p .media depth 0
  else
    let d := (d.countForcedAbandon p).clearPending p
    let d := d.onScope p fun s => { s with state := if s.state = .resetting then .resetting else .unwinding }
    { d with rollback := { d.rollback with
      jobs := d.rollback.jobs ++ [⟨p, .all, causeCode cause, 0, 0, .waiting, 0⟩] } }

/-- The wait ends after the part has left RUNNING (R22): the pending abandon is cleared, the port keeps its state, and a
FORCE ABANDON waiting on it is answered DONE when the depth is 0. -/
def Device.dropAbandon (d : Device) (p : Port) : Device :=
  let d := d.clearPending p
  if d.depth p = 0 then d.forceReply p .done 0 0 else d

/-- The wait of a pending abandon ends (R19, R22). -/
def Device.abandonWaitEnd (d : Device) (p : Port) : Device :=
  match (d.scope.get p).pendingAbandon with
  | none => d
  | some cause =>
    if d.waitOver p then (if d.part = .running then d.settleAbandon p cause else d.dropAbandon p) else d

/-- An expiry is taken when one is due, in RUNNING (R16, R22). -/
def Device.ageExpiry (d : Device) (p : Port) : Device :=
  if d.part = .running ∧ expiryDue (d.scope.get p) = true then d.takeExpiry p else d

/-- A millisecond passes for port p: the age of an open level-1 scope grows (R15), whether its timer runs or not (R9). -/
def ScopePort.tick (s : ScopePort) : ScopePort := if s.stack = [] then s else { s with age := s.age + 1 }

/-- A millisecond passes. In SAFE every block holds its state unchanged (R144). Log entry 2. -/
def Device.tick (d : Device) : Device :=
  if d.part = .safe then d else (d.onScope .p0 ScopePort.tick).onScope .p1 ScopePort.tick

/-- TAKE_APPEND_ITEM (R49). -/
def execTakeAppendItem (s : State) : Host.Outcome State Fault Refusal := .next { s with dev := s.dev.takeItem }

/-- HELD_ITEM_RETAKE (R49). -/
def execHeldItemRetake (s : State) : Host.Outcome State Fault Refusal := .next { s with dev := s.dev.retakeItem }

/-- SCOPE_AGE_EXPIRY (R16). -/
def execScopeAgeExpiry (p : Port) (s : State) : Host.Outcome State Fault Refusal :=
  .next { s with dev := s.dev.ageExpiry p }

/-- FORCED_ABANDON_WAIT_END (R19). -/
def execForcedAbandonWaitEnd (p : Port) (s : State) : Host.Outcome State Fault Refusal :=
  .next { s with dev := s.dev.abandonWaitEnd p }

/-- ROLLBACK_JOB_TAKE (R98). -/
def execRollbackJobTake (s : State) : Host.Outcome State Fault Refusal := .next { s with dev := s.dev.takeJob }

/-- ANCHOR_UPDATE_BEGIN (R116). -/
def execAnchorUpdateBegin (s : State) : Host.Outcome State Fault Refusal := .next { s with dev := s.dev.beginUpdate }

/-- FORMAT_COPY_WRITE (R122). -/
def execFormatCopyWrite (s : State) : Host.Outcome State Fault Refusal := .next { s with dev := s.dev.formatCopy }

end Sys2Proof.Machine
end

