-- ==== Sys2Proof/Machine/ControlLines.lean ====
section
/-!
DEFINITION. Part control and the control lines (08 sections 8.1 and 8.2, 09, 10.5): part reset and the start-up sequence
(R125, R126), PWRWARN and the stop (R140 to R144), the HRST lines (R153, R154, R14); the meanings of POWER_ON,
PRST_ASSERT, PRST_RELEASE, PWRWARN_ASSERT, PWRWARN_RELEASE, HRST_ASSERT, HRST_RELEASE and SAFE_ENTRY.
-/
namespace Sys2Proof.Machine

/-! ## Part reset -/

/-- A scope unit port after a part reset (Table 1-2): RESETTING while its line is asserted; limit and action are not
volatile (R3). -/
def ScopePort.afterReset (s : ScopePort) (hrst : Bool) : ScopePort :=
  { ScopePort.cleared with limit := s.limit, action := s.action, state := if hrst then .resetting else .active }

/-- A part reset (R125): every block is cleared and the part is in COLD; the levels of the control lines stay. -/
def Device.reset (d : Device) : Device :=
  { Device.cleared with
    prst := d.prst
    pwrwarn := d.pwrwarn
    host := ⟨{ HostPort.cleared with hrst := d.host.p0.hrst }, { HostPort.cleared with hrst := d.host.p1.hrst }⟩
    scope := ⟨d.scope.p0.afterReset d.host.p0.hrst, d.scope.p1.afterReset d.host.p1.hrst⟩
    choice := d.choice }

/-- The start-up sequence begins: the anchor unit asks for the first of the four line reads (R126). -/
def Device.startUp (d : Device) : Device := (d.onAnchor fun a => { a with cold := some [] }).askAnchor (.readLine 0)

/-! ## SAFE (R144) -/

/-- No access of the anchor unit or of the recovery engine is in hand and none is outstanding at the array port. -/
def ArrayPort.idleEngines (a : ArrayPort) : Bool :=
  a.anchorReq.isNone && a.recoveryReq.isNone && a.outstanding.isNone

/-- The conditions under which the part enters SAFE (R144). -/
def Device.workEnded (d : Device) : Bool :=
  decide (d.host.p0.begun = 0) && decide (d.host.p1.begun = 0) &&
  d.journal.queue.isEmpty && d.journal.append.isNone &&
  d.anchor.update.isNone &&
  (d.rollback.jobs.all fun j => j.phase == .waiting) &&
  d.array.idleEngines

/-- The part enters SAFE (R144): waits of pending abandons that are over end (R22), SAFE is latched, and a command waiting
for work that will not run is answered WRONGSTATE (R143). -/
def Device.safeEntry (d : Device) : Device :=
  if d.part = .stopping ∧ d.workEnded = true then
    let d := (d.abandonWaitEnd .p0).abandonWaitEnd .p1
    let d := { d with part := .safe }
    let d := d.latch .safe
    let d := d.onAnchor fun a => { a with format := none }
    match d.link.slot with
    | .working _ => d.reply .wrongState []
    | .empty => d
    | .ready _ _ => d
  else d

/-! ## STOPPING (R140 to R142) -/

/-- Every unbegun request of a queue is answered HALTED, in acceptance order (R141). -/
def HostPort.haltQueue (h : HostPort) : HostPort :=
  { h with
    queue := h.queue.map fun e => if e.stage = .waiting then { e with stage := .finished } else e
    path := h.path ++ (h.queue.filter fun e => e.stage == .waiting).map fun e => ⟨e.req.tag, .halted, 0#512, false⟩ }

/-- Both ports halt their queues (R141). -/
def Device.haltQueues (d : Device) : Device := (d.onHost .p0 HostPort.haltQueue).onHost .p1 HostPort.haltQueue

/-- Waiting rollback jobs end stopped (R109). -/
def Device.stopJobs (d : Device) : Device :=
  (d.rollback.jobs.filter fun j => j.phase == .waiting).foldl (fun d j => d.endJob j .stopped) d

/-- The timers stop (R22). -/
def Device.stopTimers (d : Device) : Device :=
  (d.onScope .p0 fun s => { s with running := false }).onScope .p1 fun s => { s with running := false }

/-- The part enters STOPPING as one event (R140): timers stop (R22), queues are halted (R141), the journal writer and the
rollback engine stop (R63, R109). Which of the responses one port forms at that moment is placed first is open, for each
port on its own (R151; log entry 7): a port whose free value says so halts its queue before the other work stops. -/
def Device.enterStopping (d : Device) : Device :=
  let first0 := Config.haltQueueFirst d.choice
  let first1 := Config.haltQueueFirst (d.choice + 1)
  let d := { d with part := .stopping, choice := d.choice + 2 }
  let d := d.stopTimers
  let d := if first0 then d.onHost .p0 HostPort.haltQueue else d
  let d := if first1 then d.onHost .p1 HostPort.haltQueue else d
  d.stopWriter.stopJobs.haltQueues

/-- The start-up sequence would begin: with PWRWARN asserted the part goes to STOPPING and SAFE with nothing in hand
(R140, R144), otherwise the sequence begins (R126). While PRST is asserted neither happens (R125). -/
def Device.startOrStop (d : Device) : Device :=
  if d.prst then d
  else if d.pwrwarn then d.enterStopping.safeEntry
  else d.startUp

/-- Power-on (R125). -/
def Device.powerOn (d : Device) : Device := d.reset.startOrStop

/-- PRST becomes asserted (R125). A line already asserted does not become asserted again. -/
def Device.prstAssert (d : Device) : Device := if d.prst then d else { d with prst := true }.reset

/-- PRST is released (R125, R140). -/
def Device.prstRelease (d : Device) : Device := if d.prst then { d with prst := false }.startOrStop else d

/-- PWRWARN becomes asserted (R140): taken outside SAFE with PRST released; without further effect in STOPPING. -/
def Device.pwrwarnAssert (d : Device) : Device :=
  if d.pwrwarn then d
  else
    let d := { d with pwrwarn := true }
    if d.prst then d
    else if d.part = .safe ∨ d.part = .stopping then d
    else d.enterStopping

/-- RESET PART resets as PRST does; the start-up sequence begins at once unless PRST is asserted (R125). -/
def Device.resetPart (d : Device) : Device :=
  let d := d.reset
  if d.prst then d else d.startUp

/-! ## HRST lines -/

/-- What the host port does when its HRST line becomes asserted (R153): unbegun requests are discarded, begun ones
withheld, finished ones and the response path dropped. -/
def HostPort.hrstAsserted (h : HostPort) : HostPort :=
  { hrst := true
    queue := (h.queue.filter fun e => begunStage e.stage).map fun e => { e with withheld := true }
    path := [] }

/-- What the scope unit does (R14, R20): RESETTING with the reset noted; a forced abandon PORTRESET in RUNNING where the
port has neither a forced abandon in hand nor a rollback job. A WEDGED port stays WEDGED. -/
def Device.noteReset (d : Device) (p : Port) : Device :=
  match (d.scope.get p).state with
  | .wedged => d
  | .resetting => d.onScope p fun s => { s with resetNoted := true }
  | .active =>
    let d := d.onScope p fun s => { s with state := .resetting, resetNoted := true }
    if d.jobOf p = none then d.takeForced p .portReset else d
  | .unwinding =>
    let d := d.onScope p fun s => { s with state := .resetting, resetNoted := true }
    if d.jobOf p = none then d.takeForced p .portReset else d

/-- HRSTn becomes asserted (R153, R14). -/
def Device.hrstAssert (d : Device) (p : Port) : Device :=
  if (d.host.get p).hrst then d else (d.onHost p HostPort.hrstAsserted).noteReset p

/-- HRSTn is released (R154, R14). -/
def Device.hrstRelease (d : Device) (p : Port) : Device :=
  if (d.host.get p).hrst then (d.onHost p fun h => { h with hrst := false }).settle p else d

/-! ## Meanings -/

/-- POWER_ON (R125, R140). -/
def execPowerOn (s : State) : Host.Outcome State Fault Refusal := .next { s with dev := s.dev.powerOn }

/-- PRST_ASSERT (R125). -/
def execPrstAssert (s : State) : Host.Outcome State Fault Refusal := .next { s with dev := s.dev.prstAssert }

/-- PRST_RELEASE (R125, R140). -/
def execPrstRelease (s : State) : Host.Outcome State Fault Refusal := .next { s with dev := s.dev.prstRelease }

/-- PWRWARN_ASSERT (R140). -/
def execPwrwarnAssert (s : State) : Host.Outcome State Fault Refusal := .next { s with dev := s.dev.pwrwarnAssert }

/-- PWRWARN_RELEASE (R140): no effect in any state; the level of the line is what is left. -/
def execPwrwarnRelease (s : State) : Host.Outcome State Fault Refusal :=
  .next { s with dev := { s.dev with pwrwarn := false } }

/-- HRST_ASSERT (R153). -/
def execHrstAssert (p : Port) (s : State) : Host.Outcome State Fault Refusal := .next { s with dev := s.dev.hrstAssert p }

/-- HRST_RELEASE (R154). -/
def execHrstRelease (p : Port) (s : State) : Host.Outcome State Fault Refusal :=
  .next { s with dev := s.dev.hrstRelease p }

/-- SAFE_ENTRY (R144). -/
def execSafeEntry (s : State) : Host.Outcome State Fault Refusal := .next { s with dev := s.dev.safeEntry }

end Sys2Proof.Machine
end

