-- ==== Sys2Proof/Machine/Link.lean ====
section
/-!
DEFINITION. The management link (12_management_link.md, 13_formats.md 13.4): frames and the command slot (R161 to R165),
the checks of R164, every management command with its reply payload (R174).
-/
namespace Sys2Proof.Machine

/-! ## Codes -/

/-- Reply code values (13_formats.md 13.4). -/
def replyValue : ReplyCode → Byte
  | .done => 0x00#8
  | .notQuiet => 0x01#8
  | .badParam => 0x02#8
  | .badCheck => 0x03#8
  | .unknown => 0x04#8
  | .wrongState => 0x05#8
  | .media => 0x06#8

/-- Part state values (Table 13-7). -/
def partValue : PartState → Byte
  | .cold => 0#8
  | .unformatted => 1#8
  | .recovering => 2#8
  | .running => 3#8
  | .failed => 4#8
  | .stopping => 5#8
  | .safe => 6#8

/-- Port state values (Table 13-7). -/
def portValue : PortState → Byte
  | .active => 0#8
  | .unwinding => 1#8
  | .resetting => 2#8
  | .wedged => 3#8

/-- Recovery result values (Table 13-7). -/
def resultValue : RecoveryResult → Byte
  | .none => 0#8
  | .clean => 1#8
  | .rolledBack => 2#8
  | .failed => 3#8

/-- Failure cause values (Table 13-7). -/
def failValue : Option FailCause → Byte
  | none => 0#8
  | some .anchorRead => 1#8
  | some .scanRead => 2#8
  | some .chainRead => 3#8
  | some .chainCheck => 4#8
  | some .imageWrite => 5#8
  | some .closeAppend => 6#8
  | some .anchorWrite => 7#8

/-- Copy values (Table 13-7). -/
def copyValue : Option Copy → Byte
  | none => 0#8
  | some .a => 1#8
  | some .b => 2#8

/-- Pending cause values: the close code values (Table 13-7). -/
def causeValue : Option AbandonCause → Byte
  | none => 0#8
  | some c => closeValue (causeCode c)

/-! ## Frames and the slot -/

/-- The state byte (13_formats.md 13.4): slot state in bits 0 and 1, held exchange number in bits 4 to 7. -/
def LinkController.stateByte (l : LinkController) : Byte :=
  l.exchange ++ (match l.slot with
    | .empty => 0#4
    | .working _ => 1#4
    | .ready _ _ => 2#4)

/-- The bytes of a reply (R165): code, exchange number and length, payload, CRC-8. -/
def replyBytes (exchange : BitVec 4) (code : ReplyCode) (payload : List Byte) : List Byte :=
  let head := replyValue code :: lengthByte exchange payload.length :: payload
  head ++ [crc8 head]

/-- The state byte of a frame, as the slot stood at its selection (R161): WORKING where the work of the command in the slot
ended during the frame. None where the frame is not taken: the part was reset during it (R161), or no work has ended since
the last frame, so that no such frame can end now (log entry 3). -/
def LinkController.sampled (l : LinkController) (selected : Selection) : Option Byte :=
  match selected with
  | .current => some l.stateByte
  | .beforeReply => if l.ended then some (l.exchange ++ 1#4) else none
  | .checkedBeforeReply => if l.ended then some (l.exchange ++ 1#4) else none
  | .beforeReset => none

/-- What the part sends in a frame that is no served FETCH REPLY: the state byte, then zero bytes (R161). -/
def plainBytes (state : Byte) (clocked : Nat) : List Byte := state :: List.replicate (clocked - 1) 0#8

/-- The bytes clocked in a whole frame: code, length byte, payload, check and those after it. -/
def frameBytes (f : Frame) : Nat := 3 + f.payload.length + f.extra

/-- A frame ends: the bytes the part drove in it are noted. The slot and the held number stay (R163). -/
def Device.endFrame (d : Device) (bytes : List Byte) : Device :=
  { d with link := { d.link with sent := bytes, ended := false } }

/-- A frame that is taken or discarded ends, and what then happens, given the state byte sent in it (R161). -/
def Device.onFrame (d : Device) (selected : Selection) (run : Byte → Device) : Device :=
  match d.link.sampled selected with
  | some state => run state
  | none => d

/-- A command frame whose check is good (R163, R164): discarded while the slot is WORKING; otherwise taken, its exchange
number held, and refused WRONGSTATE where the part state does not admit it. -/
def Device.command (d : Device) (f : Frame) (admitted : PartState → Bool) (run : Device → Device) : Device :=
  d.onFrame f.selected fun state =>
    let d := d.endFrame (plainBytes state (frameBytes f))
    if d.link.isWorking then d
    else
      let d := { d with link := { d.link with exchange := f.exchange } }
      if admitted d.part then run d else d.reply .wrongState []

/-- Read commands and RESET PART in start-up (Table 8-6, R143): admitted in every state. -/
def admitAll (_ : PartState) : Bool := true

/-- ACK ALERTS, SET ALERT MASK, CLEAR COUNTERS and FORMAT JOURNAL (Table 8-6, R143). -/
def admitFormatted (s : PartState) : Bool :=
  decide (s = .unformatted) || decide (s = .failed) || decide (s = .running)

/-- Setup commands and FORCE ABANDON (Table 8-6, R143). -/
def admitRunning (s : PartState) : Bool := decide (s = .running)

/-- RESET PART (R143, R164). -/
def admitReset (s : PartState) : Bool := decide (s ≠ .stopping) && decide (s ≠ .safe)

/-- The slot becomes WORKING (R162). -/
def Device.work (d : Device) (w : Work) : Device := { d with link := { d.link with slot := .working w } }

/-- A setup command has its change in force and asks for an update (R119). -/
def Device.requestUpdate (d : Device) : Device := (d.onAnchor fun a => { a with linkReq := .pending }).work .update

/-! ## Read commands -/

/-- GET STATE reply (Table 13-8). -/
def Device.statePayload (d : Device) : List Byte :=
  [partValue d.part, resultValue d.recovery.result, failValue d.recovery.cause, byteOf d.recovery.scopes,
   flagByte d.recovery.mismatch, flagByte d.recovery.anchorError, flagByte d.journal.faulted,
   byteOf d.rollback.jobs.length] ++
  bytes32Of d.recovery.records ++ bytes32Of d.recovery.images ++
  (match d.recovery.scanEnd with
    | some c => bytes32Of c
    | none => bytes32 0xFFFFFFFF#32) ++
  [copyValue d.anchor.newest, flagByte d.anchor.otherValid, flagByte d.anchor.requested,
   flagByte d.anchor.update.isSome] ++
  bytes32 d.anchor.generation ++ bytes16Of d.claims.inUse ++
  [portValue d.scope.p0.state, byteOf (d.depth .p0), portValue d.scope.p1.state, byteOf (d.depth .p1), 0#8, 0#8]

/-- Kind, level, cause, phase, levels closed of a port's job (Table 13-9, bytes 10 to 15) and lines restored (16, 17).
Without a job levels closed and lines restored are 0 (DESIGN CHOICE, log entry 42). -/
def jobPayload (j : Option Job) : List Byte :=
  match j with
  | none => [0#8, 0#8, 0#8, 0#8, 0#8, 0#8] ++ bytes16Of 0
  | some j =>
    (match j.kind with
      | .level l => [1#8, byteOf l]
      | .all => [2#8, 0#8]) ++
    [closeValue j.cause,
     (match j.phase with
      | .waiting => 0#8
      | .restoring => 1#8
      | .closing => 2#8),
     byteOf j.closed, 0#8] ++ bytes16Of j.restored

/-- The 6 bytes of a level in a GET SCOPE reply (Table 13-9). -/
def levelPayload (e : Option ScopeEntry) : List Byte :=
  match e with
  | some e => bytes16 e.serial ++ bytes32Of e.position
  | none => bytes16 0xFFFF#16 ++ bytes32 0xFFFFFFFF#32

/-- The age in a GET SCOPE reply (Table 13-9). -/
def agePayload (s : ScopePort) : List Byte :=
  if s.stack = [] then bytes32 0xFFFFFFFF#32 else bytes32Of (min s.age 0xFFFFFFFE)

/-- GET SCOPE reply (Table 13-9). -/
def Device.scopePayload (d : Device) (p : Port) : List Byte :=
  let s := d.scope.get p
  let level (l : Nat) : List Byte := levelPayload (s.stack.reverse[l - 1]?)
  [portValue s.state, flagByte s.resetNoted, byteOf s.stack.length, byteOf (actionNum s.action)] ++
  bytes16 s.serialCounter ++ bytes16 s.limit ++ [flagByte s.running, causeValue s.pendingAbandon] ++
  jobPayload (d.jobOf p) ++ [0#8, 0#8] ++ agePayload s ++ level 1 ++ level 2 ++ level 3 ++ level 4

/-- One image position in 20 bits, zeros when absent (R174). -/
def imageBits (m : Option Nat) : BitVec 20 := BitVec.ofNat 20 (m.getD 0)

/-- The flags byte of a slot in use (R174). -/
def claimFlags (c : Claim) : Byte :=
  BitVec.ofBool c.images.l4.isSome ++ BitVec.ofBool c.images.l3.isSome ++ BitVec.ofBool c.images.l2.isSome ++
  BitVec.ofBool c.images.l1.isSome ++ 0#1 ++ BitVec.ofBool c.recording ++ BitVec.ofNat 1 c.port.num ++ 1#1

/-- The 15 bytes of a slot in a GET CLAIMS reply (R174). -/
def slotPayload (s : Option Claim) : List Byte :=
  match s with
  | none => List.replicate 15 0#8
  | some c =>
    let positions : BitVec 80 :=
      imageBits c.images.l4 ++ (imageBits c.images.l3 ++ (imageBits c.images.l2 ++ imageBits c.images.l1))
    bytes32Of c.line ++ [claimFlags c] ++ bytesOf 10 positions

/-- Zero bytes up to a multiple of 4 (R174). -/
def padTo4 (bytes : List Byte) : List Byte := bytes ++ List.replicate ((4 - bytes.length % 4) % 4) 0#8

/-- GET CLAIMS reply: up to four slots from the start slot, stopping after slot 255 (R40, R174). -/
def Device.claimsPayload (d : Device) (start : Nat) : List Byte :=
  padTo4 (((d.claims.slots.toList.drop start).take 4).flatMap slotPayload)

/-- GET REGION reply (R76, R174). -/
def Device.regionPayload (d : Device) (r : Region) : List Byte :=
  bytes32Of r.first ++ bytes32Of r.last ++ [attributeByte r, byteOf (modeNum d.regions.defaultMode), 0#8, 0#8] ++
  bytes32Of (d.regions.lineCount.getD 0)

/-- Items in the append queue, including an item in progress (R64); a held item is the front of the queue. -/
def Journal.items (j : Journal) : Nat := j.queue.length + (if j.append.isSome then 1 else 0)

/-- GET JOURNAL reply (R64, Table 13-10); zeros in UNFORMATTED. -/
def Device.journalPayload (d : Device) : List Byte :=
  let j := d.journal
  if d.part = .unformatted then List.replicate 56 0#8
  else
    [flagByte j.faulted, byteOf j.items, flagByte d.anchor.requested, flagByte d.anchor.update.isSome] ++
    bytes32Of j.base ++ bytes32Of j.lines ++ bytes32Of j.cells ++ bytes32Of j.head ++ bytes32 j.nextSeq ++
    bytes32Of j.liveTail.position ++ bytes32 j.liveTail.sequence ++ bytes32Of j.tail ++ bytes32 j.tailSeq ++
    bytes32Of j.freeAnchored ++ bytes32Of j.freeLive ++ bytes32Of j.lowWater ++ bytes16 j.epoch ++ [0#8, 0#8]

/-- The latches or the mask in two bytes (13_formats.md 13.4). -/
def maskBytes (m : BitVec 10) : List Byte := bytes16 (m.setWidth 16)

/-- GET ALERTS reply (R169, R174). -/
def Device.alertsPayload (d : Device) : List Byte :=
  maskBytes d.alerts.latches ++ maskBytes d.alerts.mask ++ [flagByte d.alertLine, 0#8, 0#8, 0#8]

/-- The counters of a port on its first page (Table 12-4). -/
def PortCounters.page (c : PortCounters) : List Byte :=
  bytes32 c.images ++ bytes32 c.commits ++ bytes32 c.hostAbandons ++ bytes32 c.forcedAbandons

/-- GET COUNTERS reply for a page (R172, Table 12-4); none for a page outside 0 to 4. -/
def Device.countersPayload (d : Device) (page : Nat) : Option (List Byte) :=
  let c := d.counters
  match page with
  | 0 => some c.port.p0.page
  | 1 => some (c.port.p0.refusals.toList.flatMap bytes32)
  | 2 => some c.port.p1.page
  | 3 => some (c.port.p1.refusals.toList.flatMap bytes32)
  | 4 => some (bytes32 c.anchorWrites ++ bytes32 c.arrayErrors ++ bytes32 c.arrayTimeouts ++ bytes32 c.lateResponses ++
      bytes32 c.badFrames)
  | _ => none

/-- A command without parameters: a payload of another length is BADPARAM (R164, R174). -/
def Device.bare (d : Device) (f : Frame) (run : Device → Device) : Device :=
  if f.payload = [] then run d else d.reply .badParam []

/-- A command with one parameter byte and three zero bytes; BADPARAM for another length or a zero byte that is not zero
(R164, R174). -/
def Device.oneByte (d : Device) (f : Frame) (run : Device → Byte → Device) : Device :=
  match f.payload with
  | [a, z1, z2, z3] => if z1 = 0#8 ∧ z2 = 0#8 ∧ z3 = 0#8 then run d a else d.reply .badParam []
  | _ => d.reply .badParam []

/-- A command with a latch mask in two bytes and two zero bytes; mask bits 10 to 15 are ignored (R174). -/
def Device.maskParam (d : Device) (f : Frame) (run : Device → BitVec 10 → Device) : Device :=
  match f.payload with
  | [hi, lo, z1, z2] => if z1 = 0#8 ∧ z2 = 0#8 then run d ((num16 hi lo).setWidth 10) else d.reply .badParam []
  | _ => d.reply .badParam []

/-! ## Setup commands -/

/-- Checks 3 and 4 on SET REGION and its effect (R74). -/
def Device.setRegion (d : Device) (n attr : Byte) (first last : BitVec 32) : Device :=
  match modeOf (attr.extractLsb' 0 2).toNat with
  | none => d.reply .badParam []
  | some mode =>
    let r : Region := ⟨first.toNat, last.toNat, mode, attr.getLsbD 2, attr.getLsbD 3⟩
    if 8 ≤ n.toNat ∨ attr.extractLsb' 4 4 ≠ 0#4 then d.reply .badParam []
    else if r.enabled = true ∧ (r.last < r.first ∨ d.regions.lineCount.getD 0 ≤ r.last) then d.reply .badParam []
    else if d.quiet then
      { d with regions := { d.regions with entries := d.regions.entries.setIfInBounds n.toNat r } }.requestUpdate
    else d.reply .notQuiet []

/-- What SET TIMER does to the limit and action in force, and to those of the open scope (R17): a running timer takes them
at once, any earlier expiry with action ALERT being forgotten; while the timer is stopped they apply from the next level-1
OPEN, but that a limit of 0 lets the open scope have no expiry either (log entry 8). -/
def ScopePort.setTimer (s : ScopePort) (action : TimerAction) (limit : BitVec 16) : ScopePort :=
  let s := { s with limit := limit, action := action }
  if s.running then { s with scopeLimit := limit, scopeAction := action, expired := false }
  else if limit = 0#16 then { s with scopeLimit := 0#16 }
  else s

/-- SET TIMER on port p (R17): limit and action at once; a running timer at or past a limit other than 0 expires at
once. -/
def Device.setTimer (d : Device) (p : Port) (action : TimerAction) (limit : BitVec 16) : Device :=
  let d := d.onScope p fun s => s.setTimer action limit
  let d := if expiryDue (d.scope.get p) then d.takeExpiry p else d
  d.requestUpdate

/-- Range checks of FORMAT JOURNAL (Table 7-3, order 2). -/
def formatInRange (f : Format) : Bool :=
  decide (1 ≤ f.arrayLines) && decide (f.arrayLines ≤ Config.maxArrayLines) && decide (Config.anchorLines ≤ f.base) &&
  decide (Config.minJournalLines ≤ f.lines) && decide (f.lines ≤ Config.maxJournalLines) &&
  decide (f.base + f.lines ≤ f.arrayLines) && decide (f.lowWater ≤ 2 * f.lines - Config.journalReserve)

/-- FORMAT JOURNAL is checked and accepted (R121). -/
def Device.acceptFormat (d : Device) (f : Format) : Device :=
  if formatInRange f then
    if d.part = .running ∧ d.quiet = false then d.reply .notQuiet []
    else (d.onAnchor fun a => { a with format := some f }).work .format
  else d.reply .badParam []

/-- FORCE ABANDON of port p (R21): refused for a port that is WEDGED or has a forced abandon in hand. -/
def Device.forceAbandon (d : Device) (p : Port) : Device :=
  let s := d.scope.get p
  if s.state = .wedged ∨ s.pendingAbandon.isSome ∨ d.forcedJob p = true then d.reply .wrongState []
  else (d.takeForced p .forced).work (.force p)

/-- A reply is clocked out behind the lead bytes (R165): the slot is EMPTY once its last byte is, and stays READY when the
software deselects before. Beyond the last byte of its CRC the part sends zero bytes (DESIGN CHOICE, log entry 36), and a
part-byte there is one that ends a frame (R163). -/
def Device.serveReply (d : Device) (lead reply : List Byte) (f : Frame) : Device :=
  let d := d.endFrame (lead ++ (reply ++ List.replicate (f.extra - reply.length) 0#8).take f.extra)
  if reply.length ≤ f.extra then
    let d := { d with link := { d.link with slot := .empty } }
    if f.partByte then d.countBadFrame else d
  else d

/-- FETCH REPLY (R165): it is served by the slot state as its check is clocked in, so a slot that was then still WORKING
serves nothing and keeps the reply that has come since. A frame of a READY slot that ends before the whole reply is not
counted in BAD_FRAMES, with a part-byte or without; an EMPTY slot excepts nothing from R163 (log entry 34). -/
def Device.fetchReply (d : Device) (f : Frame) : Device :=
  d.onFrame f.selected fun state =>
    let plain := d.endFrame (plainBytes state (frameBytes f))
    match d.link.slot with
    | .working _ => plain
    | .empty => if f.partByte then plain.countBadFrame else plain
    | .ready code payload =>
      if f.selected = .checkedBeforeReply then plain
      else d.serveReply (plainBytes state (3 + f.payload.length)) (replyBytes d.link.exchange code payload) f

/-! ## What a taken command does, its payload checked (R164 order 4, R174) -/

/-- GET SCOPE. -/
def Device.getScope (d : Device) (a : Byte) : Device :=
  match portOf a with
  | some p => d.reply .done (d.scopePayload p)
  | none => d.reply .badParam []

/-- GET REGION. -/
def Device.getRegion (d : Device) (a : Byte) : Device :=
  match d.regions.entries[a.toNat]? with
  | some r => d.reply .done (d.regionPayload r)
  | none => d.reply .badParam []

/-- GET COUNTERS. -/
def Device.getCounters (d : Device) (a : Byte) : Device :=
  match d.countersPayload a.toNat with
  | some payload => d.reply .done payload
  | none => d.reply .badParam []

/-- ACK ALERTS: the named latches are cleared as one event; the reply gives the latches after it (R169). -/
def Device.ackAlerts (d : Device) (m : BitVec 10) : Device :=
  let latches := d.alerts.latches &&& ~~~m
  { d with alerts := { d.alerts with latches := latches } }.reply .done (maskBytes latches ++ [0#8, 0#8])

/-- SET ALERT MASK: the whole mask is replaced as one event (R170). -/
def Device.setAlertMask (d : Device) (m : BitVec 10) : Device :=
  { d with alerts := { d.alerts with mask := m } }.reply .done []

/-- CLEAR COUNTERS: every counter to 0 as one event (R172). -/
def Device.clearCounters (d : Device) : Device := { d with counters := Counters.cleared }.reply .done []

/-- The payload of SET REGION. -/
def Device.setRegionParam (d : Device) (f : Frame) : Device :=
  match f.payload with
  | [n, attr, z1, z2, f3, f2, f1, f0, l3, l2, l1, l0] =>
    if z1 = 0#8 ∧ z2 = 0#8 then d.setRegion n attr (num32 f3 f2 f1 f0) (num32 l3 l2 l1 l0)
    else d.reply .badParam []
  | _ => d.reply .badParam []

/-- SET DEFAULT MODE (R75). -/
def Device.setDefaultMode (d : Device) (a : Byte) : Device :=
  match modeOf a.toNat with
  | none => d.reply .badParam []
  | some mode =>
    if d.quiet then { d with regions := { d.regions with defaultMode := mode } }.requestUpdate
    else d.reply .notQuiet []

/-- The payload of SET TIMER. -/
def Device.setTimerParam (d : Device) (f : Frame) : Device :=
  match f.payload with
  | [port, action, hi, lo] =>
    match portOf port, actionOf action with
    | some p, some a => d.setTimer p a (num16 hi lo)
    | _, _ => d.reply .badParam []
  | _ => d.reply .badParam []

/-- A timeout SET ARRAY TIMEOUT takes: a multiple of 10 within 10 to 2,550 µs (R159). -/
def timeoutInRange (t : Nat) : Bool := decide (t % 10 = 0) && decide (10 ≤ t) && decide (t ≤ 2550)

/-- The payload of SET ARRAY TIMEOUT; the value is in force for every access granted from now on (R159). -/
def Device.setTimeoutParam (d : Device) (f : Frame) : Device :=
  match f.payload with
  | [z1, z2, hi, lo] =>
    let t := (num16 hi lo).toNat
    if z1 = 0#8 ∧ z2 = 0#8 ∧ timeoutInRange t = true then
      { d with array := { d.array with timeout := BitVec.ofNat 8 (t / 10) } }.requestUpdate
    else d.reply .badParam []
  | _ => d.reply .badParam []

/-- The payload of FORMAT JOURNAL. -/
def Device.formatParam (d : Device) (f : Frame) : Device :=
  match f.payload with
  | [a3, a2, a1, a0, b3, b2, b1, b0, c3, c2, c1, c0, w3, w2, w1, w0] =>
    d.acceptFormat ⟨(num32 a3 a2 a1 a0).toNat, (num32 b3 b2 b1 b0).toNat, (num32 c3 c2 c1 c0).toNat,
      (num32 w3 w2 w1 w0).toNat, d.part⟩
  | _ => d.reply .badParam []

/-- The payload of FORCE ABANDON. -/
def Device.forceParam (d : Device) (a : Byte) : Device :=
  match portOf a with
  | some p => d.forceAbandon p
  | none => d.reply .badParam []

/-! ## The whole effect of a frame -/

/-- A frame that ends while the slot is WORKING is discarded unchecked (R163). Only a frame's end makes the slot WORKING, so
it was WORKING at the selection. -/
def Device.frameWhileWorking (d : Device) (clocked : Nat) : Device :=
  if d.link.isWorking then d.endFrame (plainBytes d.link.stateByte clocked) else d

/-- A frame cut short is discarded; BAD_FRAMES advances unless the slot is WORKING (R163). -/
def Device.frameCutShort (d : Device) (f : CutFrame) : Device :=
  d.onFrame f.selected fun state =>
    let d := d.endFrame (plainBytes state f.clocked)
    if d.link.isWorking then d else d.countBadFrame

/-! ## Meanings -/

/-- FRAME_WHILE_WORKING (R163). -/
def execFrameWhileWorking (clocked : Nat) (s : State) : Host.Outcome State Fault Refusal :=
  .next { s with dev := s.dev.frameWhileWorking clocked }

/-- FRAME_CUT_SHORT (R163). -/
def execFrameCutShort (f : CutFrame) (s : State) : Host.Outcome State Fault Refusal :=
  .next { s with dev := s.dev.frameCutShort f }

/-- BADCHECK (R163): BAD_FRAMES advances and the slot is READY with BADCHECK and the exchange number as received. -/
def execBadCheck (f : Frame) (s : State) : Host.Outcome State Fault Refusal :=
  .next { s with dev := s.dev.command f admitAll fun d => d.countBadFrame.reply .badCheck [] }

/-- UNKNOWN (R164). -/
def execUnknown (_code : Byte) (f : Frame) (s : State) : Host.Outcome State Fault Refusal :=
  .next { s with dev := s.dev.command f admitAll fun d => d.reply .unknown [] }

/-- FETCH_REPLY (R165). -/
def execFetchReply (f : Frame) (s : State) : Host.Outcome State Fault Refusal :=
  .next { s with dev := s.dev.fetchReply f }

/-- GET_STATE (R166). -/
def execGetState (f : Frame) (s : State) : Host.Outcome State Fault Refusal :=
  .next { s with dev := s.dev.command f admitAll fun d => d.bare f fun d => d.reply .done d.statePayload }

/-- GET_SCOPE (R166). -/
def execGetScope (f : Frame) (s : State) : Host.Outcome State Fault Refusal :=
  .next { s with dev := s.dev.command f admitAll fun d => d.oneByte f Device.getScope }

/-- GET_CLAIMS (R40). -/
def execGetClaims (f : Frame) (s : State) : Host.Outcome State Fault Refusal :=
  .next { s with dev := s.dev.command f admitAll fun d => d.oneByte f fun d a => d.reply .done (d.claimsPayload a.toNat) }

/-- GET_REGION (R76). -/
def execGetRegion (f : Frame) (s : State) : Host.Outcome State Fault Refusal :=
  .next { s with dev := s.dev.command f admitAll fun d => d.oneByte f Device.getRegion }

/-- GET_JOURNAL (R64). -/
def execGetJournal (f : Frame) (s : State) : Host.Outcome State Fault Refusal :=
  .next { s with dev := s.dev.command f admitAll fun d => d.bare f fun d => d.reply .done d.journalPayload }

/-- GET_ALERTS (R169). -/
def execGetAlerts (f : Frame) (s : State) : Host.Outcome State Fault Refusal :=
  .next { s with dev := s.dev.command f admitAll fun d => d.bare f fun d => d.reply .done d.alertsPayload }

/-- GET_COUNTERS (R172). -/
def execGetCounters (f : Frame) (s : State) : Host.Outcome State Fault Refusal :=
  .next { s with dev := s.dev.command f admitAll fun d => d.oneByte f Device.getCounters }

/-- ACK_ALERTS (R169). -/
def execAckAlerts (f : Frame) (s : State) : Host.Outcome State Fault Refusal :=
  .next { s with dev := s.dev.command f admitFormatted fun d => d.maskParam f Device.ackAlerts }

/-- SET_ALERT_MASK (R170). -/
def execSetAlertMask (f : Frame) (s : State) : Host.Outcome State Fault Refusal :=
  .next { s with dev := s.dev.command f admitFormatted fun d => d.maskParam f Device.setAlertMask }

/-- CLEAR_COUNTERS (R172). -/
def execClearCounters (f : Frame) (s : State) : Host.Outcome State Fault Refusal :=
  .next { s with dev := s.dev.command f admitFormatted fun d => d.bare f Device.clearCounters }

/-- SET_REGION (R74). -/
def execSetRegion (f : Frame) (s : State) : Host.Outcome State Fault Refusal :=
  .next { s with dev := s.dev.command f admitRunning fun d => d.setRegionParam f }

/-- SET_DEFAULT_MODE (R75). -/
def execSetDefaultMode (f : Frame) (s : State) : Host.Outcome State Fault Refusal :=
  .next { s with dev := s.dev.command f admitRunning fun d => d.oneByte f Device.setDefaultMode }

/-- SET_TIMER (R17). -/
def execSetTimer (f : Frame) (s : State) : Host.Outcome State Fault Refusal :=
  .next { s with dev := s.dev.command f admitRunning fun d => d.setTimerParam f }

/-- SET_ARRAY_TIMEOUT (R159). -/
def execSetArrayTimeout (f : Frame) (s : State) : Host.Outcome State Fault Refusal :=
  .next { s with dev := s.dev.command f admitRunning fun d => d.setTimeoutParam f }

/-- SYNC_ANCHOR (R119). -/
def execSyncAnchor (f : Frame) (s : State) : Host.Outcome State Fault Refusal :=
  .next { s with dev := s.dev.command f admitRunning fun d => d.bare f Device.requestUpdate }

/-- FORMAT_JOURNAL (R121). -/
def execFormatJournal (f : Frame) (s : State) : Host.Outcome State Fault Refusal :=
  .next { s with dev := s.dev.command f admitFormatted fun d => d.formatParam f }

/-- FORCE_ABANDON (R21). -/
def execForceAbandon (f : Frame) (s : State) : Host.Outcome State Fault Refusal :=
  .next { s with dev := s.dev.command f admitRunning fun d => d.oneByte f Device.forceParam }

/-- RESET_PART (R125, R164): no reply; the slot is emptied with the rest. -/
def execResetPart (f : Frame) (s : State) : Host.Outcome State Fault Refusal :=
  .next { s with dev := s.dev.command f admitReset fun d => d.bare f Device.resetPart }

end Sys2Proof.Machine
end

