-- ==== Sys2Proof/Machine/Markers.lean ====
section
/-!
DEFINITION. The markers (01_scopes.md sections 1.2 and following): their checks (R4), and the meanings of OPEN (R5), CLOSE
(R7, R8), ABANDON (R10) and of a MARK of no marker kind (R146, R174).
-/
namespace Sys2Proof.Machine

/-- Orders 2 to 5 of Table 1-3 for a MARK that begins; order 1 is answered by Table 10-2. -/
def Device.markerCheck (d : Device) (p : Port) (r : Request) : Option RespCode :=
  let depth := d.depth p
  let level := reqLevel r
  if d.part = .unformatted ∨ d.part = .failed then some .noJournal
  else if d.journal.faulted then some .journalFault
  else
    match markKind r with
    | .openScope =>
      if depth = Config.maxLevel then some .depth
      else if level = depth + 1 then none else some .level
    | .closeScope => if 1 ≤ level ∧ level ≤ 4 ∧ level = depth then none else some .level
    | .abandonScope => if 1 ≤ level ∧ level ≤ 4 ∧ level = depth then none else some .level
    | .none => some .level

/-- The MARK of a kind that begins next at port p, with the code it is answered, or none when it is carried out (R4). -/
def Device.nextMark (d : Device) (p : Port) (kind : MarkKind) : Option (Nat × Request × Option RespCode) :=
  match d.nextBegin p fun r => reqKind r == .mark && markKind r == kind with
  | none => none
  | some (i, e, some code) => some (i, e.req, some code)
  | some (i, e, none) => some (i, e.req, d.markerCheck p e.req)

/-- An OPEN is carried out (R5): its record is handed to the journal writer. -/
def Device.openScope (d : Device) (p : Port) (level : Nat) : Device :=
  d.enqueue { source := .marker, port := p, level := level, serial := (d.scope.get p).serialCounter, record := .openScope }

/-- A CLOSE is carried out: MERGED at levels 2 to 4 (R7); at level 1 the timer stops and the record is COMMITTED (R8). -/
def Device.closeScope (d : Device) (p : Port) (level : Nat) : Device :=
  let d := if level = 1 then d.onScope p fun s => { s with running := false } else d
  d.enqueue { source := .marker, port := p, level := level, serial := serialAt (d.scope.get p).stack level,
              record := .close (if level = 1 then .committed else .merged) }

/-- An ABANDON is carried out (R10): UNWINDING, the timer of a level-1 scope stopped, HOST_ABANDONS advanced, a job
"level L" queued with cause ABANDONED-HOST (R98). -/
def Device.abandonScope (d : Device) (p : Port) (level : Nat) : Device :=
  let d := d.onScope p fun s => { s with state := .unwinding, running := if level = 1 then false else s.running }
  let d := d.countHostAbandon p
  { d with rollback := { d.rollback with
    jobs := d.rollback.jobs ++ [⟨p, .level level, .abandonedHost, 0, 0, .waiting, 0⟩] } }

/-- OPEN (R5). -/
def execOpen (p : Port) (s : State) : Host.Outcome State Fault Refusal :=
  match s.dev.nextMark p .openScope with
  | none => .next s
  | some (i, _, some code) => .next { s with dev := s.dev.answerAt p i code }
  | some (i, r, none) => .next { s with dev := (s.dev.beginAt p i .marker).openScope p (reqLevel r) }

/-- CLOSE (R7, R8). -/
def execClose (p : Port) (s : State) : Host.Outcome State Fault Refusal :=
  match s.dev.nextMark p .closeScope with
  | none => .next s
  | some (i, _, some code) => .next { s with dev := s.dev.answerAt p i code }
  | some (i, r, none) => .next { s with dev := (s.dev.beginAt p i .marker).closeScope p (reqLevel r) }

/-- ABANDON (R10). -/
def execAbandon (p : Port) (s : State) : Host.Outcome State Fault Refusal :=
  match s.dev.nextMark p .abandonScope with
  | none => .next s
  | some (i, _, some code) => .next { s with dev := s.dev.answerAt p i code }
  | some (i, r, none) => .next { s with dev := (s.dev.beginAt p i .marker).abandonScope p (reqLevel r) }

/-- MARK_KIND_NONE (R146, R174): every such MARK is answered by the checks of R4, LEVEL at the latest. -/
def execMarkKindNone (p : Port) (s : State) : Host.Outcome State Fault Refusal :=
  match s.dev.nextMark p .none with
  | none => .next s
  | some (i, _, some code) => .next { s with dev := s.dev.answerAt p i code }
  | some (i, _, none) => .next { s with dev := s.dev.answerAt p i .level }

end Sys2Proof.Machine
end

