-- ==== Sys2Proof/Machine/Dispatch.lean ====
section
/-!
DEFINITION. One arm for each command: a direct call of its meaning.
-/
namespace Sys2Proof.Machine

/-- The effect of a command on everything but the queue. -/
def exec (i : Instr) (s : State) : Host.Outcome State Fault Refusal :=
  match i with
  | .powerOn => Sys2Proof.Machine.execPowerOn s
  | .prstAssert => Sys2Proof.Machine.execPrstAssert s
  | .prstRelease => Sys2Proof.Machine.execPrstRelease s
  | .pwrwarnAssert => Sys2Proof.Machine.execPwrwarnAssert s
  | .pwrwarnRelease => Sys2Proof.Machine.execPwrwarnRelease s
  | .hrstAssert port => Sys2Proof.Machine.execHrstAssert port s
  | .hrstRelease port => Sys2Proof.Machine.execHrstRelease port s
  | .requestTaken port request => Sys2Proof.Machine.execRequestTaken port request s
  | .responseTaken port => Sys2Proof.Machine.execResponseTaken port s
  | .readBegin port => Sys2Proof.Machine.execReadBegin port s
  | .readHazardClear port line => Sys2Proof.Machine.execReadHazardClear port line s
  | .writeBegin port => Sys2Proof.Machine.execWriteBegin port s
  | .openMark port => Sys2Proof.Machine.execOpen port s
  | .closeMark port => Sys2Proof.Machine.execClose port s
  | .abandonMark port => Sys2Proof.Machine.execAbandon port s
  | .accessGrant => Sys2Proof.Machine.execAccessGrant s
  | .arrayAnswer number ok data => Sys2Proof.Machine.execArrayAnswer number ok data s
  | .arrayResponseTimeout => Sys2Proof.Machine.execArrayResponseTimeout s
  | .takeAppendItem => Sys2Proof.Machine.execTakeAppendItem s
  | .heldItemRetake => Sys2Proof.Machine.execHeldItemRetake s
  | .scopeAgeExpiry port => Sys2Proof.Machine.execScopeAgeExpiry port s
  | .forcedAbandonWaitEnd port => Sys2Proof.Machine.execForcedAbandonWaitEnd port s
  | .rollbackJobTake => Sys2Proof.Machine.execRollbackJobTake s
  | .anchorUpdateBegin => Sys2Proof.Machine.execAnchorUpdateBegin s
  | .safeEntry => Sys2Proof.Machine.execSafeEntry s
  | .formatCopyWrite => Sys2Proof.Machine.execFormatCopyWrite s
  | .frameWhileWorking clocked => Sys2Proof.Machine.execFrameWhileWorking clocked s
  | .frameCutShort frame => Sys2Proof.Machine.execFrameCutShort frame s
  | .badCheck frame => Sys2Proof.Machine.execBadCheck frame s
  | .unknown code frame => Sys2Proof.Machine.execUnknown code frame s
  | .fetchReply frame => Sys2Proof.Machine.execFetchReply frame s
  | .getState frame => Sys2Proof.Machine.execGetState frame s
  | .getScope frame => Sys2Proof.Machine.execGetScope frame s
  | .getClaims frame => Sys2Proof.Machine.execGetClaims frame s
  | .getRegion frame => Sys2Proof.Machine.execGetRegion frame s
  | .getJournal frame => Sys2Proof.Machine.execGetJournal frame s
  | .getAlerts frame => Sys2Proof.Machine.execGetAlerts frame s
  | .getCounters frame => Sys2Proof.Machine.execGetCounters frame s
  | .ackAlerts frame => Sys2Proof.Machine.execAckAlerts frame s
  | .setAlertMask frame => Sys2Proof.Machine.execSetAlertMask frame s
  | .clearCounters frame => Sys2Proof.Machine.execClearCounters frame s
  | .setRegion frame => Sys2Proof.Machine.execSetRegion frame s
  | .setDefaultMode frame => Sys2Proof.Machine.execSetDefaultMode frame s
  | .setTimer frame => Sys2Proof.Machine.execSetTimer frame s
  | .setArrayTimeout frame => Sys2Proof.Machine.execSetArrayTimeout frame s
  | .syncAnchor frame => Sys2Proof.Machine.execSyncAnchor frame s
  | .formatJournal frame => Sys2Proof.Machine.execFormatJournal frame s
  | .forceAbandon frame => Sys2Proof.Machine.execForceAbandon frame s
  | .resetPart frame => Sys2Proof.Machine.execResetPart frame s
  | .markKindNone port => Sys2Proof.Machine.execMarkKindNone port s

end Sys2Proof.Machine
end

