-- ==== Sys2Proof/Safety.lean ====
section
/-!
DEFINITION. The terms the statements use: conditions on a state and the effects of the manual's rules written out field
by field, independently of the machine's own operations.
-/
namespace Sys2Proof.Machine

/-- A step went on to a next state that meets P. -/
def Nexts (o : Host.Outcome State Fault Refusal) (P : State → Prop) : Prop :=
  match o with
  | .next s => P s
  | .fault _ => False
  | .refused _ => False

/-! ## Resets -/

/-- A scope unit port after a part reset (Table 1-2); limit and action are kept (R3). -/
def coldScope (s : ScopePort) (hrst : Bool) : ScopePort :=
  { stack := [], serialCounter := 0#16, state := if hrst then .resetting else .active, limit := s.limit,
    action := s.action, running := false, age := 0, scopeLimit := 0#16, scopeAction := .alert, expired := false,
    pendingAbandon := none, resetNoted := false }

/-- The part as a part reset leaves it, before the start-up sequence begins: every block cleared (R125), the levels of
the control lines as they were. -/
def coldAfter (d : Device) : Device :=
  { part := .cold, prst := d.prst, pwrwarn := d.pwrwarn
    host := ⟨⟨d.host.p0.hrst, [], []⟩, ⟨d.host.p1.hrst, [], []⟩⟩
    scope := ⟨coldScope d.scope.p0 d.host.p0.hrst, coldScope d.scope.p1 d.host.p1.hrst⟩
    regions := ⟨Vector.replicate 8 ⟨0, 0, .pass, false, false⟩, .pass, none⟩
    claims := ⟨Vector.replicate 256 none⟩
    journal := { faulted := false, base := 0, lines := 0, lowWater := 0, epoch := 0#16, tail := 0, tailSeq := 0#32,
                 head := 0, nextSeq := 0#32, treeStart := ⟨none, none⟩, last := ⟨none, none⟩, queue := [],
                 append := none, held := none }
    anchor := { newest := none, generation := 0#32, otherValid := false, setup := none, update := none,
                writerReq := .none, linkReq := .none, recoveryReq := .none, cold := none, format := none }
    rollback := ⟨[], none⟩
    recovery := { phase := .idle, pos := 0, expected := 0#32, cells := 0,
                  ports := ⟨⟨false, [], none, none⟩, ⟨false, [], none, none⟩⟩, records := 0, scopes := 0, images := 0,
                  result := .none, cause := none, mismatch := false, anchorError := false, scanEnd := none }
    array := { outstanding := none, number := 0#4, timeout := 50#8, lastHost := .p1, anchorReq := none,
               journalReq := none, rollbackReq := none, recoveryReq := none, hostReq := ⟨[], []⟩ }
    link := ⟨.empty, 0#4, [], false⟩
    alerts := ⟨0#10, 0x3FF#10⟩
    counters := ⟨⟨⟨0#32, 0#32, 0#32, 0#32, Vector.replicate 15 0#32⟩, ⟨0#32, 0#32, 0#32, 0#32, Vector.replicate 15 0#32⟩⟩,
      0#32, 0#32, 0#32, 0#32, 0#32⟩
    choice := d.choice }

/-- The start-up sequence begins: the read of line 0 is asked for (R126). -/
def startedUp (d : Device) : Device :=
  { d with anchor := { d.anchor with cold := some [] }
           array := { d.array with anchorReq := some (.readLine 0) } }

/-! ## Host ports -/

/-- Replace host port p. -/
def withPort (d : Device) (p : Port) (h : HostPort) : Device := { d with host := d.host.set p h }

/-- The request e at place i finishes and its response takes its place on the path; a withheld one leaves the queue
without a response (R150, R151, R153). -/
def answered (h : HostPort) (i : Nat) (e : Entry) (code : RespCode) (data : LineData) : HostPort :=
  if e.withheld then { h with queue := h.queue.eraseIdx i }
  else { h with queue := h.queue.set i { e with stage := .finished }, path := h.path ++ [⟨e.req.tag, code, data, false⟩] }

/-- The request e at place i begins, or reaches a stage, at a level. -/
def reached (h : HostPort) (i : Nat) (e : Entry) (stage : Stage) (level : Nat) : HostPort :=
  { h with queue := h.queue.set i { e with stage := stage, level := level } }

/-- A request is begun and unfinished. -/
def isBegun (e : Entry) : Bool := e.stage != .waiting && e.stage != .finished

/-- The conditions of R150 for the request e at place i. -/
def EligibleAt (q : List Entry) (i : Nat) (e : Entry) : Prop :=
  q[i]? = some e ∧ e.stage = .waiting ∧
  (q.filter isBegun).length < 4 ∧
  (∀ j x, j < i → q[j]? = some x → reqKind x.req = .mark → x.stage = .finished) ∧
  (reqKind e.req ≠ .mark → ∀ j x, j < i → q[j]? = some x → reqKind x.req ≠ .mark → reqLine x.req = reqLine e.req →
    x.stage = .finished) ∧
  (reqKind e.req = .mark → (∀ j x, j < i → q[j]? = some x → x.stage = .finished) ∧ ∀ x ∈ q, isBegun x = false)

/-- The request e at place i is the oldest eligible one (R150). -/
def BeginsNext (q : List Entry) (i : Nat) (e : Entry) : Prop :=
  EligibleAt q i e ∧ ∀ j x, j < i → ¬ EligibleAt q j x

/-- The last row of Table 10-2: the port begins requests under R150. -/
def Begins (d : Device) (p : Port) : Prop :=
  (d.host.get p).hrst = false ∧ (d.part = .running ∨ d.part = .unformatted ∨ d.part = .failed) ∧
  (d.scope.get p).state = .active ∧ (d.scope.get p).pendingAbandon = none ∧ d.anchor.format = none

/-- Request e at place i of port p's queue begins next under R150, its response not withheld. -/
def Starts (d : Device) (p : Port) (i : Nat) (e : Entry) : Prop :=
  Begins d p ∧ BeginsNext (d.host.get p).queue i e ∧ e.withheld = false

/-- The command that begins a request (rows READ_BEGIN, WRITE_BEGIN, OPEN, CLOSE, ABANDON, MARK_KIND_NONE). -/
def beginCommand (p : Port) (r : Request) : Instr :=
  match reqKind r with
  | .read => .readBegin p
  | .write => .writeBegin p
  | .mark => match markKind r with
    | .openScope => .openMark p
    | .closeScope => .closeMark p
    | .abandonScope => .abandonMark p
    | .none => .markKindNone p

/-- Every unbegun request is answered HALTED, in acceptance order (R141). -/
def haltedQueue (h : HostPort) : HostPort :=
  { h with
    queue := h.queue.map fun e => if e.stage = .waiting then { e with stage := .finished } else e
    path := h.path ++ h.queue.filterMap fun e =>
      if e.stage = .waiting then some ⟨e.req.tag, .halted, 0#512, false⟩ else none }

/-- A counter after its event (R171). -/
def counted (c : BitVec 32) : BitVec 32 := if c = 0xFFFFFFFF#32 then c else c + 1#32

/-- What holds of a host port in every reachable state: at most 8 queue places and 4 begun requests (R146 to R150);
distinct tags (R147); only begun requests are withheld (R153); the path holds one response for each finished request and
at most one TAG refusal (R151); and behind an unfinished MARK nothing is begun, nor a MARK or a request of the same line
behind an unfinished request (R150). -/
def PortInv (h : HostPort) : Prop :=
  h.queue.length ≤ 8 ∧ (h.queue.filter isBegun).length ≤ 4 ∧
  ((h.queue.filter fun e => !e.withheld).map fun e => e.req.tag).Nodup ∧
  (∀ e ∈ h.queue, e.withheld = true → isBegun e = true) ∧
  ((h.path.filter fun r => !r.refusal).map Response.tag).Perm
    ((h.queue.filter fun e => e.stage == .finished).map fun e => e.req.tag) ∧
  (h.path.filter Response.refusal).length ≤ 1 ∧
  h.queue.Pairwise fun x y => isBegun y = true → x.stage ≠ .finished →
    reqKind x.req ≠ .mark ∧ reqKind y.req ≠ .mark ∧ reqLine x.req ≠ reqLine y.req

/-! ## Claim table -/

/-- The slot and entry the table finds for a line. -/
def ClaimedAt (t : ClaimTable) (line : Nat) (i : Fin 256) (c : Claim) : Prop :=
  t.slots[i] = some c ∧ c.line = line ∧ ∀ j : Fin 256, j < i → ∀ x, t.slots[j] = some x → x.line ≠ line

/-- No entry is for the line. -/
def Unclaimed (t : ClaimTable) (line : Nat) : Prop :=
  ∀ (j : Fin 256) x, t.slots[j] = some x → x.line ≠ line

/-- At most one entry for any line (R23). -/
def ClaimInv (t : ClaimTable) : Prop :=
  ∀ (i j : Fin 256) x y, t.slots[i] = some x → t.slots[j] = some y → x.line = y.line → i = j

/-- A line hazard (R91): a PENDING entry, or the rollback engine's line in hand. -/
def Hazard (d : Device) (line : Nat) : Prop :=
  (∃ i c, ClaimedAt d.claims line i c ∧ c.recording = true) ∨ ∃ h, d.rollback.hand = some h ∧ h.line = line

/-- The line lies at or beyond the array line count, in RUNNING or FAILED (R67). -/
def BeyondArray (d : Device) (line : Nat) : Prop :=
  (d.part = .running ∨ d.part = .failed) ∧ ∃ n, d.regions.lineCount = some n ∧ n ≤ line

/-- The line lies in the journal area (R68). -/
def InJournal (d : Device) (line : Nat) : Prop := d.journal.base ≤ line ∧ line < d.journal.base + d.journal.lines

/-! ## Journal -/

/-- The checks a durable append is followed by: JLOW (R58) and, in RUNNING with the journal NORMAL, the lag (R56). -/
def lagChecked (d : Device) : Device :=
  if d.part = .running ∧ d.journal.faulted = false ∧ 2 * d.journal.lines ≤ 8 * d.journal.lag ∧ d.anchor.writerReq = .none
  then { d with anchor := { d.anchor with writerReq := .pending } } else d

/-- JLOW is latched when the free cells against the live tail less 9 are below the low-water mark (R58). -/
def jlowChecked (d : Device) : Device :=
  if d.journal.freeLive - 9 < d.journal.lowWater then
    { d with alerts := { d.alerts with latches := d.alerts.latches ||| 4#10 } }
  else d

/-- The journal after a durable append (R50), the tree starts and last-record positions given. -/
def appendedTo (j : Journal) (a : Append) (last : PerPort (Option Nat)) (treeStart : PerPort (Option TreeStart)) :
    Journal :=
  let length := match a.item.record with
    | .openScope => 1
    | .image _ _ => 3
    | .close _ => 1
  { j with
    head := (a.position + length) % (2 * j.lines)
    nextSeq := j.nextSeq + (if a.pad = 0 then 1#32 else 2#32)
    last := last
    treeStart := treeStart
    append := none }

/-- The array has answered the last write of the append in progress a. -/
def AppendEnds (d : Device) (n : BitVec 4) (o : Outstanding) (a : Append) : Prop :=
  d.array.outstanding = some o ∧ o.number = n ∧ o.requester = .journal ∧ d.journal.append = some a ∧ a.rest = []

/-- The outstanding access has ended. -/
def portFree (d : Device) : Device := { d with array := { d.array with outstanding := none } }

/-! ## Recovery -/

/-- Condition 1 of R129 on a record at cell c of a journal of the given number of cells. -/
def LengthFits (cells c : Nat) (h : Header) : Prop :=
  ((h.kind = 1#8 ∨ h.kind = 3#8) ∧ h.length = 1#8) ∨
  (h.kind = 2#8 ∧ h.length = 3#8 ∧ c + 3 ≤ cells) ∨
  (h.kind = 4#8 ∧ (h.length = 1#8 ∨ h.length = 2#8) ∧ c + h.length.toNat = cells)

/-- Condition 5 of R129. -/
def FieldsInRange (d : Device) (h : Header) : Prop :=
  (h.port = 0#8 ∨ h.port = 1#8) ∧
  (if h.kind = 4#8 then h.level = 0#8 else 1 ≤ h.level.toNat ∧ h.level.toNat ≤ 4) ∧
  (if h.kind = 3#8 then 1 ≤ h.code.toNat ∧ h.code.toNat ≤ 7 else h.code = 0#8) ∧
  (h.prior = 0xFFFFFFFF#32 ∨ h.prior.toNat < 2 * d.journal.lines) ∧
  (h.kind = 2#8 → h.target.toNat < d.regions.lineCount.getD 0 ∧ 4 ≤ h.target.toNat ∧ ¬InJournal d h.target.toNat)

/-- Conditions 1 and 2 of R129 on a header at cell c. -/
def HeaderFits (d : Device) (c : Nat) (h : Header) : Prop :=
  LengthFits (2 * d.journal.lines) c h ∧ h.epoch = d.journal.epoch

/-- Conditions 1, 2, 4 and 5 of R129 on a record at cell c, and that it carries port p: what the walk checks (R133). -/
def OnChain (d : Device) (p : Port) (c : Nat) (h : Header) (body : Option LineData) : Prop :=
  HeaderFits d c h ∧ h.check = recordCheck h body ∧ FieldsInRange d h ∧ h.port.toNat = p.num

/-- The record at the scan position is accepted (R129). -/
def Accepted (d : Device) (h : Header) (body : Option LineData) : Prop :=
  HeaderFits d d.recovery.pos h ∧ h.sequence = d.recovery.expected ∧ h.check = recordCheck h body ∧ FieldsInRange d h ∧
  d.recovery.cells + h.length.toNat < 2 * d.journal.lines

/-- The recovery engine reaches a phase and asks for an access. -/
def engineAsks (d : Device) (phase : RecoveryPhase) (x : Access) : Device :=
  { d with recovery := { d.recovery with phase := phase }, array := { d.array with recoveryReq := some x } }

/-- An accepted record that matches or is ignored is taken into the scan, the ports' scan state being given, and the line
of the next one is asked for (R129). -/
def scannedOn (d : Device) (h : Header) (ports : PerPort ScanPort) : Device :=
  let pos := if h.kind = 4#8 then 0 else (d.recovery.pos + h.length.toNat) % (2 * d.journal.lines)
  engineAsks { d with recovery := { d.recovery with
    records := d.recovery.records + 1, expected := d.recovery.expected + 1#32, pos := pos
    cells := d.recovery.cells + h.length.toNat, ports := ports } } .scanHeader (.readLine (d.journal.base + pos / 2))

/-- The scan has ended at its position and the journal writer has taken head, next sequence, tree starts and last-record
positions (R130). -/
def scanEnded (d : Device) (mismatch : Bool) : Device :=
  let tree (s : ScanPort) : Option TreeStart := s.stack.getLast?.map fun e => ⟨e.position, e.sequence⟩
  let last (s : ScanPort) : Option Nat := if s.stack = [] then none else s.last
  let r := d.recovery
  { d with
    journal := { d.journal with
      head := r.pos, nextSeq := r.expected, treeStart := ⟨tree r.ports.p0, tree r.ports.p1⟩
      last := ⟨last r.ports.p0, last r.ports.p1⟩ }
    recovery := { r with phase := .idle, scanEnd := some r.pos, mismatch := mismatch } }

/-- The recovery engine asks for the line of the record at a cell of a port's chain (R133). -/
def walksTo (d : Device) (p : Port) (c : Nat) : Device :=
  engineAsks d (.walkHeader p c) (.readLine (d.journal.base + c / 2))

/-- The closing record of the top level of a port's scan stack is handed over (R134). -/
def closesLevel (d : Device) (p : Port) (e : ScanEntry) : Device :=
  { d with
    recovery := { d.recovery with phase := .closing p }
    journal := { d.journal with
      queue := d.journal.queue ++ [⟨.recovery, p, e.level, e.serial, .close .abandonedRecovery⟩] } }

/-- The final anchor update is asked for (R134). -/
def asksFinalUpdate (d : Device) : Device :=
  { d with recovery := { d.recovery with phase := .finalUpdate }, anchor := { d.anchor with recoveryReq := .pending } }

/-- Recovery is complete in RECOVERING (R134). -/
def recovered (d : Device) : Device :=
  let counter (s : ScanPort) : BitVec 16 := match s.lastOpen with
    | some x => x + 1#16
    | none => 0#16
  { d with
    part := .running
    scope := ⟨{ d.scope.p0 with serialCounter := counter d.recovery.ports.p0 },
      { d.scope.p1 with serialCounter := counter d.recovery.ports.p1 }⟩
    recovery := { d.recovery with
      phase := .idle, result := if d.recovery.scopes = 0 then .clean else .rolledBack }
    alerts := { d.alerts with latches := d.alerts.latches ||| 0x100#10 } }

/-- Recovery has failed in RECOVERING (R135). -/
def recoveryFailed (d : Device) (cause : FailCause) : Device :=
  { d with
    part := .failed
    journal := { d.journal with faulted := true }
    recovery := { d.recovery with phase := .idle, result := .failed, cause := some cause }
    alerts := { d.alerts with latches := (d.alerts.latches ||| 0x008#10) ||| 0x040#10 } }

/-- Both walks have ended: the scopes rolled back are counted (R133). -/
def walked (d : Device) : Device :=
  { d with recovery := { d.recovery with
    scopes := d.recovery.ports.p0.stack.length + d.recovery.ports.p1.stack.length } }

/-! ## Host writes and the anchor area -/

/-- No write of a host names a line of the anchor area (R68): neither a waiting or outstanding access of host work that
writes, nor a begun write, nor its IMAGE item. -/
def HostWritesClear (d : Device) : Prop :=
  (∀ p, ∀ a ∈ d.array.hostReq.get p, (∀ line, a ≠ .readLine line) → 4 ≤ accessLine a) ∧
  (∀ o p, d.array.outstanding = some o → o.requester = .host p → (∀ line, o.access ≠ .readLine line) →
    4 ≤ accessLine o.access) ∧
  (∀ p, ∀ e ∈ (d.host.get p).queue,
    e.stage = .plain ∨ e.stage = .preRead ∨ e.stage = .append ∨ e.stage = .target → 4 ≤ reqLine e.req) ∧
  (∀ i ∈ d.journal.queue, i.source = .write → ∀ line body, i.record = .image line body → 4 ≤ line) ∧
  (∀ a, d.journal.append = some a → a.item.source = .write → ∀ line body, a.item.record = .image line body →
    4 ≤ line)

/-! ## Quiet -/

/-- The part is quiet (R74). -/
def Quiet (d : Device) : Prop :=
  d.scope.p0.stack = [] ∧ d.scope.p1.stack = [] ∧
  (∀ e ∈ d.host.p0.queue, isBegun e = true → reqKind e.req ≠ .mark) ∧
  (∀ e ∈ d.host.p1.queue, isBegun e = true → reqKind e.req ≠ .mark) ∧
  (∀ i : Fin 256, d.claims.slots[i] = none) ∧
  d.rollback.jobs = [] ∧ d.scope.p0.pendingAbandon = none ∧ d.scope.p1.pendingAbandon = none ∧
  d.journal.queue = [] ∧ d.journal.append = none

/-! ## Management link -/

/-- The command slot is not WORKING. -/
def SlotFree (d : Device) : Prop := ∀ w, d.link.slot ≠ .working w

/-- The state byte of a frame: the held exchange number, and the slot state as it stood at the selection (R161). -/
def sampledByte (d : Device) (selected : Selection) : Byte :=
  d.link.exchange ++ (match selected, d.link.slot with
    | .current, .empty => 0#4
    | .current, .working _ => 1#4
    | .current, .ready _ _ => 2#4
    | _, _ => 1#4)

/-- The bytes the part drives in a frame that serves no reply: the state byte, then zeros (R161). -/
def idleBytes (d : Device) (selected : Selection) (clocked : Nat) : List Byte :=
  sampledByte d selected :: List.replicate (clocked - 1) 0#8

/-- A frame with this selection can end now: the slot is as it was then, or the work of its command has ended since. -/
def FrameEnds (d : Device) (selected : Selection) : Prop :=
  selected = .current ∨ (d.link.ended = true ∧ (selected = .beforeReply ∨ selected = .checkedBeforeReply))

/-- The frame f, its check good, is taken: the slot is not WORKING (R163). -/
def FrameTaken (d : Device) (f : Frame) : Prop := SlotFree d ∧ FrameEnds d f.selected

/-- Bytes clocked in a whole frame. -/
def wholeFrame (f : Frame) : Nat := 3 + f.payload.length + f.extra

/-- The frame f has been taken and the slot is as given (R162). -/
def tookFrame (d : Device) (f : Frame) (slot : Slot) : Device :=
  { d with link := ⟨slot, f.exchange, idleBytes d f.selected (wholeFrame f), false⟩ }

/-- The link controller when the work of the command w has ended, the slot WORKING with that command; else as it was
(R162). -/
def toldOf (l : LinkController) (w : Work) (code : ReplyCode) (payload : List Byte) : LinkController :=
  if l.slot = .working w then { l with slot := .ready code payload, ended := true } else l

/-- The payload of a FORCE ABANDON reply: scopes abandoned, a zero byte, lines restored in two bytes (R174). -/
def forceCounts (scopes lines : Nat) : List Byte :=
  [BitVec.ofNat 8 scopes, 0#8, (BitVec.ofNat 16 lines).extractLsb' 8 8, (BitVec.ofNat 16 lines).extractLsb' 0 8]

/-- A parameter byte and three zero bytes (R174). -/
def byteParam (a : Byte) : List Byte := [a, 0#8, 0#8, 0#8]

/-! ## SAFE -/

/-- What R144 says of SAFE: no access outstanding or waiting, no append, no update, no format, no begun request. -/
def SafeInv (d : Device) : Prop :=
  d.part = .safe ∧ d.prst = false ∧ d.array.outstanding = none ∧ d.array.anchorReq = none ∧ d.array.journalReq = none ∧
  d.array.rollbackReq = none ∧ d.array.recoveryReq = none ∧ d.array.hostReq = ⟨[], []⟩ ∧
  d.journal.queue = [] ∧ d.journal.append = none ∧ d.anchor.update = none ∧ d.anchor.format = none ∧
  (∀ e ∈ d.host.p0.queue, isBegun e = false) ∧ (∀ e ∈ d.host.p1.queue, isBegun e = false)

end Sys2Proof.Machine
end

