-- ==== Sys2Proof/WellFormed.lean ====
section
/-!
DEFINITION. Well-formed commands. Bit fields are bounded by their types; what remains is the shape of a management
frame (R161: a payload of 0 to 60 bytes in units of 4 bytes), that a frame has at least one byte (R163: "A deselection
with no byte clocked is not a frame") and ends with a whole byte unless it is a FETCH REPLY (R163, R165), and that the row
UNKNOWN carries a code that is not a code of the part (R164).
-/
namespace Sys2Proof

/-- The payload is 0 to 60 bytes, a whole number of 4-byte units (R161). -/
def Frame.wellFormed (f : Frame) : Bool :=
  f.payload.length % 4 == 0 && decide (f.payload.length ≤ 60)

/-- A frame of a command other than FETCH REPLY ends with a whole byte: with a part-byte it is cut short (R163). -/
def Frame.whole (f : Frame) : Bool := f.wellFormed && !f.partByte

/-- The check on each row's operands. -/
def Instr.wellFormed : Instr → Bool
  | .frameWhileWorking n => decide (1 ≤ n)
  | .frameCutShort f => decide (1 ≤ f.clocked)
  | .unknown code f => f.whole && !(commandCodes.contains code)
  | .badCheck f => f.whole
  | .fetchReply f => f.wellFormed
  | .getState f => f.whole
  | .getScope f => f.whole
  | .getClaims f => f.whole
  | .getRegion f => f.whole
  | .getJournal f => f.whole
  | .getAlerts f => f.whole
  | .getCounters f => f.whole
  | .ackAlerts f => f.whole
  | .setAlertMask f => f.whole
  | .clearCounters f => f.whole
  | .setRegion f => f.whole
  | .setDefaultMode f => f.whole
  | .setTimer f => f.whole
  | .setArrayTimeout f => f.whole
  | .syncAnchor f => f.whole
  | .formatJournal f => f.whole
  | .forceAbandon f => f.whole
  | .resetPart f => f.whole
  | .powerOn => true
  | .prstAssert => true
  | .prstRelease => true
  | .pwrwarnAssert => true
  | .pwrwarnRelease => true
  | .hrstAssert _ => true
  | .hrstRelease _ => true
  | .requestTaken _ _ => true
  | .responseTaken _ => true
  | .readBegin _ => true
  | .readHazardClear _ _ => true
  | .writeBegin _ => true
  | .openMark _ => true
  | .closeMark _ => true
  | .abandonMark _ => true
  | .accessGrant => true
  | .arrayAnswer _ _ _ => true
  | .arrayResponseTimeout => true
  | .takeAppendItem => true
  | .heldItemRetake => true
  | .scopeAgeExpiry _ => true
  | .forcedAbandonWaitEnd _ => true
  | .rollbackJobTake => true
  | .anchorUpdateBegin => true
  | .safeEntry => true
  | .formatCopyWrite => true
  | .markKindNone _ => true

end Sys2Proof
end

