-- ==== Sys2Proof/Certificates/Slice0/Obligations.lean ====
section
/-!
DEFINITION. The statements for the provers. Each names the rules it rests on; the terms are those of
Sys2Proof/Safety.lean.
-/

open Sys2Proof Sys2Proof.Machine

/-! ## The machine -/

/-- A step runs the command at the front of the queue with the queue's rest. -/
def Obligations.StepRunsTheFrontCommand : Prop :=
  ∀ (c : Instr) (rest : List Instr) (d : Device), step ⟨c :: rest, d⟩ = exec c ⟨rest, d⟩

/-- A step with no command waiting is a millisecond: the age of each open level-1 scope grows by one (R15), in SAFE
nothing changes (R144). That idle time is told by steps is the model's choice (log entry 2). -/
def Obligations.IdleStepPassesAMillisecond : Prop :=
  ∀ d : Device,
    let aged (s : ScopePort) : ScopePort := { s with age := if s.stack = [] then s.age else s.age + 1 }
    (d.part = .safe → step ⟨[], d⟩ = .next ⟨[], d⟩) ∧
    (d.part ≠ .safe → step ⟨[], d⟩ = .next ⟨[], { d with scope := ⟨aged d.scope.p0, aged d.scope.p1⟩ }⟩)

/-- Every command goes to a next state, leaves the queue as it is, and does the same to the part whatever waits. The model's
choice: the manual gives no queue (log entry 1), a command whose event cannot happen changes nothing (log entry 3), and the
operations are total also in states that no run reaches (log entry 24). -/
def Obligations.EveryCommandCompletes : Prop :=
  ∀ (c : Instr) (d : Device) (q q' : List Instr),
    ∃ d', exec c ⟨q, d⟩ = .next ⟨q, d'⟩ ∧ exec c ⟨q', d⟩ = .next ⟨q', d'⟩

/-! ## Formats -/

/-- Every management command a good frame can carry is read back from its frame (R161, Table 13-6), a FETCH REPLY also from
one that ends with a part-byte (R165). -/
def Obligations.ManagementFramesRoundTrip : Prop :=
  ∀ (i : Instr) (code : Byte) (f : Frame), i.wellFormed = true → frameOf i = some (code, f) →
    decodeFrame f.selected (encodeFrame code f) f.partByte = some i

/-- Frames that are not taken: one that ends before its check or, but for a good FETCH REPLY, inside a byte is cut short,
one whose check is wrong is BADCHECK, one with a code the part does not have is UNKNOWN; a deselection with no byte clocked
is no frame (R161, R163, R164). -/
def Obligations.SpoiledFramesAreTold : Prop :=
  ∀ (code : Byte) (f : Frame), f.wellFormed = true →
    let head := code :: lengthByte f.exchange f.payload.length :: f.payload
    let cut (n : Nat) : Option Instr := some (.frameCutShort ⟨f.selected, n⟩)
    (∀ (k : Nat) (part : Bool), 0 < k → k < 3 + f.payload.length →
      decodeFrame f.selected ((encodeFrame code f).take k) part = cut k) ∧
    (∀ (check : Byte) (extra : List Byte), check ≠ crc8 head →
      decodeFrame f.selected (head ++ check :: extra) false =
        some (.badCheck { f with extra := extra.length, partByte := false }) ∧
      decodeFrame f.selected (head ++ check :: extra) true = cut (3 + f.payload.length + extra.length)) ∧
    (code ≠ 0x0F#8 → decodeFrame f.selected (encodeFrame code f) true = cut (3 + f.payload.length + f.extra)) ∧
    (code ∉ commandCodes → f.partByte = false →
      decodeFrame f.selected (encodeFrame code f) false = some (.unknown code f)) ∧
    decodeFrame f.selected [] false = none

/-- What the array stores loses nothing: the header cell of a record is read back as written, and every cell is the fields
read from it (Table 13-1); an anchor copy within the ranges of Table 7-1 is valid when read back, with its generation and
every value (R112, R113, Table 13-3). -/
def Obligations.StoredFormatsRoundTrip : Prop :=
  (∀ h : Header, decodeHeader (encodeHeader h) = h) ∧ (∀ c : CellData, encodeHeader (decodeHeader c) = c) ∧
  ∀ (g : BitVec 32) (v : Setup), v.inRange = true →
    (∀ i : Fin 8, v.regions[i].first < 2 ^ 32 ∧ v.regions[i].last < 2 ^ 32) →
    decodeCopy (copyLine (encodeCopy g v) false) (copyLine (encodeCopy g v) true) = some (g, v)

/-! ## Resets, the power warning, the HRST lines -/

/-- Power-on, PRST and RESET PART clear every block and leave the part in COLD (R125, Table 1-2); the start-up sequence
begins at once after power-on and RESET PART, and at the release of PRST (R125, R126). With PWRWARN asserted where it would
begin after power-on or PRST, the part goes to SAFE at once and reads nothing (R140, R144). The model's choice in this: the
lines keep their levels (log entry 26), a timer its limit and action (27); a repeated edge is no event (20); RESET PART
empties link.sent and does not look at PWRWARN (33), and under PRST waits for its release (19); choice advances by 2 (7). -/
def Obligations.ResetsClearEveryBlock : Prop :=
  ∀ (q : List Instr) (d : Device) (f : Frame),
    let safe : Device := { coldAfter { d with prst := false } with
      part := .safe, alerts := ⟨0x200#10, 0x3FF#10⟩, choice := d.choice + 2 }
    (d.prst = false → exec .prstAssert ⟨q, d⟩ = .next ⟨q, coldAfter { d with prst := true }⟩) ∧
    (d.prst = true → exec .prstAssert ⟨q, d⟩ = .next ⟨q, d⟩) ∧
    (d.prst = false → d.pwrwarn = false → exec .powerOn ⟨q, d⟩ = .next ⟨q, startedUp (coldAfter d)⟩) ∧
    (d.prst = false → d.pwrwarn = true → exec .powerOn ⟨q, d⟩ = .next ⟨q, safe⟩) ∧
    (d.prst = true → exec .powerOn ⟨q, d⟩ = .next ⟨q, coldAfter d⟩) ∧
    (d.prst = true → d.pwrwarn = false → exec .prstRelease ⟨q, d⟩ = .next ⟨q, startedUp { d with prst := false }⟩) ∧
    (d.pwrwarn = true → exec .prstRelease ⟨q, coldAfter { d with prst := true }⟩ = .next ⟨q, safe⟩) ∧
    (d.prst = false → exec .prstRelease ⟨q, d⟩ = .next ⟨q, d⟩) ∧
    (FrameTaken d f → d.part ≠ .stopping → d.part ≠ .safe → f.payload = [] →
      exec (.resetPart f) ⟨q, d⟩ = .next ⟨q, if d.prst then coldAfter d else startedUp (coldAfter d)⟩)

/-- The state after reset is the one power-on leaves with every line released, power-on from it gives it again, and the
invariants of the host ports, the claim table and the writes of host work hold of it. What no rule gives of that state is
the model's choice (log entry 1). -/
def Obligations.ResetStateIsThatOfPowerOn : Prop :=
  State.reset = ⟨[], startedUp (coldAfter State.reset.dev)⟩ ∧ State.reset.dev.prst = false ∧
  State.reset.dev.pwrwarn = false ∧ exec .powerOn State.reset = .next State.reset ∧
  PortInv State.reset.dev.host.p0 ∧ PortInv State.reset.dev.host.p1 ∧ ClaimInv State.reset.dev.claims ∧
  HostWritesClear State.reset.dev

/-- PWRWARN, taken by a part with no waiting rollback job, no untaken item of the engines and no item held for an update
not begun: STOPPING, both timers stopped, every unbegun request answered HALTED (R140, R141, R22); its release does nothing.
What else the Lean text fixes is the model's choice: choice advances by 2 (log entry 7), an access that waits at the
arbiter stays (log entry 15). -/
def Obligations.WarningStopsThePart : Prop :=
  ∀ (q : List Instr) (d : Device),
    (d.prst = false → d.pwrwarn = false → d.part ≠ .safe → d.part ≠ .stopping →
      (∀ j ∈ d.rollback.jobs, j.phase ≠ .waiting) →
      (∀ i ∈ d.journal.queue, i.source = .write ∨ i.source = .marker) →
      ¬(d.journal.held = some .request ∧ d.anchor.writerReq = .pending) →
      (d.journal.queue = [] → d.journal.held = none) →
      exec .pwrwarnAssert ⟨q, d⟩ = .next ⟨q, { d with
        part := .stopping
        pwrwarn := true
        choice := d.choice + 2
        scope := ⟨{ d.scope.p0 with running := false }, { d.scope.p1 with running := false }⟩
        host := ⟨haltedQueue d.host.p0, haltedQueue d.host.p1⟩ }⟩) ∧
    (d.prst = true ∨ d.part = .safe ∨ d.part = .stopping →
      exec .pwrwarnAssert ⟨q, d⟩ = .next ⟨q, { d with pwrwarn := true }⟩) ∧
    exec .pwrwarnRelease ⟨q, d⟩ = .next ⟨q, { d with pwrwarn := false }⟩

/-- Whatever is in hand, PWRWARN leaves no waiting rollback job, no untaken item of the rollback or recovery engine, no
unbegun request and no running timer, and touches neither the array port nor the anchor unit, the regions, the alerts, the
counters, the slot, the scope unit's other state or the journal's pointers (R22, R63, R109, R141, R142). The item of a write
or a marker held for an update that had not begun leaves the queue and its requester is answered HALTED, the claim change of
a write undone (R63, R32); other items of writes and markers stay, and every other claim. A job that waited, or whose CLOSE
item was not taken, leaves the job queue: it ends stopped, and a host ABANDON is answered HALTED (R109, R11). That an access
already asked for stays is log entry 15, that the writer's request for an update stays is log entry 18. -/
def Obligations.WarningDropsWaitingWork : Prop :=
  ∀ (q : List Instr) (d : Device), d.prst = false → d.pwrwarn = false → d.part ≠ .safe → d.part ≠ .stopping →
    let kept (i : Item) : Bool := i.source == .write || i.source == .marker
    let refused := d.journal.held = some .request ∧ d.anchor.writerReq = .pending
    let halted (t : Device) (p : Port) (e : Entry) : Prop :=
      e.withheld = false → ⟨e.req.tag, .halted, 0#512, false⟩ ∈ (t.host.get p).path
    Nexts (exec .pwrwarnAssert ⟨q, d⟩) fun t =>
      t.dev.part = .stopping ∧
      (∀ j ∈ t.dev.rollback.jobs, j.phase ≠ .waiting) ∧
      (∀ i ∈ t.dev.journal.queue, i.source = .write ∨ i.source = .marker) ∧
      (∀ p, ∀ e ∈ (t.dev.host.get p).queue, e.stage ≠ .waiting) ∧
      (∀ p, t.dev.scope.get p = { d.scope.get p with running := false }) ∧
      t.dev.array = d.array ∧ t.dev.anchor = d.anchor ∧ t.dev.regions = d.regions ∧ t.dev.alerts = d.alerts ∧
      t.dev.counters = d.counters ∧ t.dev.link = d.link ∧
      t.dev.journal.head = d.journal.head ∧ t.dev.journal.nextSeq = d.journal.nextSeq ∧
      t.dev.journal.tail = d.journal.tail ∧ t.dev.journal.treeStart = d.journal.treeStart ∧
      t.dev.journal.append = d.journal.append ∧
      ((∀ i behind, d.journal.queue = i :: behind → ¬(refused ∧ kept i = true)) →
        t.dev.journal.queue = d.journal.queue.filter kept ∧ t.dev.claims = d.claims) ∧
      (∀ i behind, refused → d.journal.queue = i :: behind → kept i = true →
        t.dev.journal.queue = behind.filter kept ∧ t.dev.journal.held = none ∧
        (i.source = .marker → t.dev.claims = d.claims ∧ ∀ k e, (d.host.get i.port).markIndex = some k →
          (d.host.get i.port).queue[k]? = some e → halted t.dev i.port e) ∧
        (i.source = .write → ∀ line body, i.record = .image line body →
          (∀ k e, (d.host.get i.port).lineIndex line = some k → (d.host.get i.port).queue[k]? = some e →
            halted t.dev i.port e) ∧
          ∀ slot x, ClaimedAt d.claims line slot x → t.dev.claims.slots = d.claims.slots.set slot
            (if x.images = ⟨none, none, none, none⟩ then none else some { x with recording := false }))) ∧
      ∀ j ∈ d.rollback.jobs, (∀ x ∈ d.rollback.jobs, x.port = j.port → x = j) →
        j.phase = .waiting ∨ (∃ i ∈ d.journal.queue, i.source = .rollback ∧ i.port = j.port) →
        (∀ x ∈ t.dev.rollback.jobs, x.port ≠ j.port) ∧
        ∀ l k e, j.kind = .level l → (d.host.get j.port).markIndex = some k →
          (d.host.get j.port).queue[k]? = some e → halted t.dev j.port e

/-- HRSTn becomes asserted: unbegun and finished requests and the path are dropped, begun requests are withheld (R153);
the port becomes RESETTING with the reset noted unless it is WEDGED, and a forced abandon PORTRESET is taken in RUNNING
where no abandon and no job of the port is in hand (R14). HRSTn is released: a RESETTING port with no abandon pending and
no job becomes ACTIVE and its noted reset is cleared, otherwise only the line changes (R14, R154). That a TAG refusal is
dropped with the path is log entry 16, that the release settles the port in every part state is log entry 32. -/
def Obligations.HrstLinesAreFollowed : Prop :=
  ∀ (q : List Instr) (p : Port) (d : Device),
    let h := d.host.get p
    let s := d.scope.get p
    let idle := s.pendingAbandon = none ∧ ∀ j ∈ d.rollback.jobs, j.port ≠ p
    ((d.host.get p).hrst = false →
      let host := d.host.set p ⟨true, (h.queue.filter isBegun).map fun e => { e with withheld := true }, []⟩
      (s.state = .wedged → exec (.hrstAssert p) ⟨q, d⟩ = .next ⟨q, { d with host := host }⟩) ∧
      (s.state = .resetting → exec (.hrstAssert p) ⟨q, d⟩ =
        .next ⟨q, { d with host := host, scope := d.scope.set p { s with resetNoted := true } }⟩) ∧
      (s.state = .active ∨ s.state = .unwinding → ¬(d.part = .running ∧ idle) → exec (.hrstAssert p) ⟨q, d⟩ =
        .next ⟨q, { d with host := host, scope := d.scope.set p { s with state := .resetting, resetNoted := true } }⟩) ∧
      (s.state = .active ∨ s.state = .unwinding → d.part = .running → idle → exec (.hrstAssert p) ⟨q, d⟩ =
        .next ⟨q, { d with
          host := host
          scope := d.scope.set p { s with
            state := .resetting, resetNoted := true, pendingAbandon := some .portReset, running := false } }⟩)) ∧
    ((d.host.get p).hrst = true →
      let host := d.host.set p { h with hrst := false }
      (s.state = .resetting → idle → exec (.hrstRelease p) ⟨q, d⟩ =
        .next ⟨q, { d with host := host, scope := d.scope.set p { s with state := .active, resetNoted := false } }⟩) ∧
      (¬(s.state = .resetting ∧ idle) → exec (.hrstRelease p) ⟨q, d⟩ = .next ⟨q, { d with host := host }⟩))

/-! ## Host ports -/

/-- A presented request is discarded while HRST is asserted (R154); otherwise it is queued, refused TAG while its tag is
outstanding, or left on the channel while the queue is full or a TAG refusal waits (R147). -/
def Obligations.RequestIsTaken : Prop :=
  ∀ (q : List Instr) (p : Port) (r : Request) (d : Device),
    let h := d.host.get p
    let out := ∃ e ∈ h.queue, e.withheld = false ∧ e.req.tag = r.tag
    let room := h.hrst = false ∧ h.queue.length < 8 ∧ ∀ x ∈ h.path, x.refusal = false
    (room → ¬out → exec (.requestTaken p r) ⟨q, d⟩ =
      .next ⟨q, withPort d p { h with queue := h.queue ++ [⟨r, .waiting, 0, false⟩] }⟩) ∧
    (room → out → exec (.requestTaken p r) ⟨q, d⟩ =
      .next ⟨q, withPort d p { h with path := h.path ++ [⟨r.tag, .tag, 0#512, true⟩] }⟩) ∧
    (¬room → exec (.requestTaken p r) ⟨q, d⟩ = .next ⟨q, d⟩)

/-- The master takes the first response of the path: its queue place and tag are freed unless it is a TAG refusal (R147,
R151), and a code other than OK advances the port's refusal counter for it (R152). -/
def Obligations.ResponseIsTaken : Prop :=
  ∀ (q : List Instr) (p : Port) (d : Device) (r : Response) (rest : List Response), (d.host.get p).path = r :: rest →
    let h := d.host.get p
    let c := d.counters.port.get p
    let queue := if r.refusal then h.queue else h.queue.eraseP fun e => e.stage == .finished && e.req.tag == r.tag
    let k := respValue r.code - 1
    exec (.responseTaken p) ⟨q, d⟩ = .next ⟨q, { d with
      host := d.host.set p { h with queue := queue, path := rest }
      counters := { d.counters with port := d.counters.port.set p <|
        if r.code = .ok then c else
          { c with refusals := c.refusals.setIfInBounds k (counted (c.refusals[k]?.getD 0#32)) } } }⟩

/-- Requests of a part in COLD, RECOVERING, STOPPING or SAFE, or of a RESETTING port, are answered HALTED in acceptance
order; WRITEs and MARKs of a WEDGED port are answered WEDGED (Table 10-2). -/
def Obligations.HaltedAndWedgedAnswers : Prop :=
  ∀ (q : List Instr) (p : Port) (d : Device) (i : Nat) (e : Entry),
    let h := d.host.get p
    let s := d.scope.get p
    h.hrst = false → h.queue[i]? = some e → e.stage = .waiting → e.withheld = false →
    ((d.part = .cold ∨ d.part = .recovering ∨ d.part = .stopping ∨ d.part = .safe ∨ s.state = .resetting) →
      (∀ j x, j < i → h.queue[j]? = some x → x.stage ≠ .waiting) →
      exec (beginCommand p e.req) ⟨q, d⟩ = .next ⟨q, withPort d p (answered h i e .halted 0#512)⟩) ∧
    ((d.part = .running ∨ d.part = .unformatted ∨ d.part = .failed) → s.state = .wedged → s.pendingAbandon = none →
      d.anchor.format = none → reqKind e.req ≠ .read →
      (∀ j x, j < i → h.queue[j]? = some x → x.stage = .waiting → reqKind x.req = .read) →
      exec (beginCommand p e.req) ⟨q, d⟩ = .next ⟨q, withPort d p (answered h i e .wedged 0#512)⟩)

/-- The request the part begins is the oldest that meets the conditions of R150. -/
def Obligations.TheOldestEligibleBegins : Prop :=
  ∀ (q : List Entry) (i : Nat), oldestEligible q = some i ↔ ∃ e, BeginsNext q i e

/-- A READ that begins: SPLIT, RANGE, the line hazards, the arbiter (R89, R91, R67); in a WEDGED port READs begin under
R150 when no WRITE or MARK waits to be answered WEDGED (Table 10-2). A READ held by a line hazard goes on to the arbiter
when the hazard has ended, and stays while it lasts (R91). That it goes on by a step of its own, READ_HAZARD_CLEAR, which
looks at the hazards again, is the model's choice (log entry 22). -/
def Obligations.ReadBegins : Prop :=
  ∀ (q : List Instr) (p : Port) (d : Device) (i : Nat) (e : Entry),
    let h := d.host.get p
    let line := reqLine e.req
    let split := 16 < e.req.startWord.toNat + (e.req.countField.toNat + 1)
    let wedgedRead := h.hrst = false ∧ (d.part = .running ∨ d.part = .unformatted ∨ d.part = .failed) ∧
      (d.scope.get p).state = .wedged ∧ (d.scope.get p).pendingAbandon = none ∧ d.anchor.format = none ∧
      BeginsNext h.queue i e ∧ e.withheld = false ∧ ∀ x ∈ h.queue, x.stage = .waiting → reqKind x.req = .read
    let asks (level : Nat) : Device :=
      { withPort d p (reached h i e .readAccess level) with
        array := { d.array with
          hostReq := d.array.hostReq.set p (d.array.hostReq.get p ++ [.readLine line]) } }
    reqKind e.req = .read →
    (Starts d p i e ∨ wedgedRead →
      (split → exec (.readBegin p) ⟨q, d⟩ = .next ⟨q, withPort d p (answered h i e .split 0#512)⟩) ∧
      (¬split → BeyondArray d line →
        exec (.readBegin p) ⟨q, d⟩ = .next ⟨q, withPort d p (answered h i e .range 0#512)⟩) ∧
      (¬split → ¬BeyondArray d line → Hazard d line → exec (.readBegin p) ⟨q, d⟩ =
        .next ⟨q, withPort d p (reached h i e .readHazard (d.scope.get p).stack.length)⟩) ∧
      (¬split → ¬BeyondArray d line → ¬Hazard d line →
        exec (.readBegin p) ⟨q, d⟩ = .next ⟨q, asks (d.scope.get p).stack.length⟩)) ∧
    (h.queue[i]? = some e → e.stage = .readHazard →
      (∀ j x, j < i → h.queue[j]? = some x → isBegun x = true → reqKind x.req ≠ .mark → x.req.line ≠ e.req.line) →
      (Hazard d line → exec (.readHazardClear p e.req.line) ⟨q, d⟩ = .next ⟨q, d⟩) ∧
      (¬Hazard d line → exec (.readHazardClear p e.req.line) ⟨q, d⟩ = .next ⟨q, asks e.level⟩))

/-- The refusals of a WRITE at its begin, in the order of Table 5-2: SPLIT, RANGE, GUARDED, the mode of its line, and the
claim table's answer (R67 to R71, R27, R28, R29). -/
def Obligations.WriteIsRefused : Prop :=
  ∀ (q : List Instr) (p : Port) (d : Device) (i : Nat) (e : Entry),
    let h := d.host.get p
    let line := reqLine e.req
    let depth := (d.scope.get p).stack.length
    let split := 16 < e.req.startWord.toNat + (e.req.countField.toNat + 1)
    let answer (code : RespCode) : Prop :=
      exec (.writeBegin p) ⟨q, d⟩ = .next ⟨q, withPort d p (answered h i e code 0#512)⟩
    let classed := ¬split ∧ ¬BeyondArray d line ∧ 4 ≤ line ∧ d.part ≠ .unformatted ∧ ¬InJournal d line
    let other := ∃ s c, ClaimedAt d.claims line s c ∧ c.port ≠ p
    let own := ∃ s c, ClaimedAt d.claims line s c ∧ c.port = p ∧ imageAt c.images depth = none
    Starts d p i e → reqKind e.req = .write →
    (split → answer .split) ∧
    (¬split → BeyondArray d line → answer .range) ∧
    (¬split → ¬BeyondArray d line → line < 4 → answer .guarded) ∧
    (¬split → ¬BeyondArray d line → d.part ≠ .unformatted → InJournal d line → answer .guarded) ∧
    (classed → ∀ mode allow, d.regions.classify line = (mode, allow) →
      (mode = .guard → answer .guarded) ∧
      (mode = .journal → d.part = .failed → answer .journalFault) ∧
      (mode = .journal → d.part = .running → depth = 0 → allow = false → answer .unscoped) ∧
      (mode = .journal → d.part = .running → depth = 0 → allow = true → other → answer .claimed) ∧
      (mode = .journal → d.part = .running → depth ≠ 0 → other → answer .claimed) ∧
      (mode = .journal → d.part = .running → depth ≠ 0 → d.journal.faulted = true → own → answer .journalFault) ∧
      (mode = .journal → d.part = .running → depth ≠ 0 → d.journal.faulted = true → Unclaimed d.claims line →
        answer .journalFault) ∧
      (mode = .journal → d.part = .running → depth ≠ 0 → d.journal.faulted = false → Unclaimed d.claims line →
        (∀ s : Fin 256, d.claims.slots[s] ≠ none) → answer .claimsFull))

/-- A WRITE is forwarded as a plain write: in UNFORMATTED outside the anchor area (R72), to a PASS line, unscoped under
ALLOW with no claim of the other port (R30), or with an image of the line held at the write's level (R81); full-line when
it names every byte (R81). -/
def Obligations.WriteIsForwarded : Prop :=
  ∀ (q : List Instr) (p : Port) (d : Device) (i : Nat) (e : Entry),
    let h := d.host.get p
    let r := e.req
    let line := reqLine r
    let depth := (d.scope.get p).stack.length
    let access : Access :=
      if r.startWord = 0#4 ∧ r.countField = 15#4 ∧ r.enables = 0xFFFFFFFFFFFFFFFF#64 then .writeFull line r.data
      else .writePart line r.startWord.toNat (r.countField.toNat + 1) r.enables r.data
    Starts d p i e → reqKind r = .write → r.startWord.toNat + (r.countField.toNat + 1) ≤ 16 → ¬BeyondArray d line →
    4 ≤ line →
    (d.part = .unformatted ∨
      (¬InJournal d line ∧ ∃ mode allow, d.regions.classify line = (mode, allow) ∧
        (mode = .pass ∨
          (mode = .journal ∧ d.part = .running ∧ depth = 0 ∧ allow = true ∧
            ∀ s c, ClaimedAt d.claims line s c → c.port = p) ∨
          (mode = .journal ∧ d.part = .running ∧ depth ≠ 0 ∧
            ∃ s c, ClaimedAt d.claims line s c ∧ c.port = p ∧ imageAt c.images depth ≠ none)))) →
    exec (.writeBegin p) ⟨q, d⟩ = .next ⟨q, { withPort d p (reached h i e .plain depth) with
      array := { d.array with hostReq := d.array.hostReq.set p (d.array.hostReq.get p ++ [access]) } }⟩

/-- A journaled write: TAKE IMAGE makes the port's own entry PENDING, or allocates the lowest free slot and latches
CLAIMHIGH when 224 or more entries are then in use (R26, R27); the pre-image read of the whole line is asked for
(R83). -/
def Obligations.WriteTakesAnImage : Prop :=
  ∀ (q : List Instr) (p : Port) (d : Device) (i : Nat) (e : Entry) (slot : Fin 256) (allow : Bool),
    let h := d.host.get p
    let line := reqLine e.req
    let depth := (d.scope.get p).stack.length
    let next (claims : ClaimTable) (latches : BitVec 10) : Device :=
      { withPort d p (reached h i e .preRead depth) with
        claims := claims
        alerts := { d.alerts with latches := latches }
        array := { d.array with hostReq := d.array.hostReq.set p (d.array.hostReq.get p ++ [.readLine line]) } }
    Starts d p i e → reqKind e.req = .write → e.req.startWord.toNat + (e.req.countField.toNat + 1) ≤ 16 →
    d.part = .running → d.journal.faulted = false → ¬BeyondArray d line → 4 ≤ line → ¬InJournal d line →
    d.regions.classify line = (.journal, allow) → depth ≠ 0 →
    (∀ c, ClaimedAt d.claims line slot c → c.port = p → imageAt c.images depth = none →
      exec (.writeBegin p) ⟨q, d⟩ = .next ⟨q,
        next ⟨d.claims.slots.set slot (some { c with recording := true })⟩ d.alerts.latches⟩) ∧
    (Unclaimed d.claims line → d.claims.slots[slot] = none → (∀ j : Fin 256, j < slot → d.claims.slots[j] ≠ none) →
      let claims : ClaimTable := ⟨d.claims.slots.set slot (some ⟨line, p, true, ⟨none, none, none, none⟩⟩)⟩
      exec (.writeBegin p) ⟨q, d⟩ = .next ⟨q, next claims
        (if 224 ≤ claims.slots.toList.countP Option.isSome then d.alerts.latches ||| 0x080#10
         else d.alerts.latches)⟩)

/-- Every command keeps each host port's invariant: queue and window bounds, distinct tags, one response on the path for
each finished request, the same-line order and the marker barrier (R146 to R151). -/
def Obligations.PortInvariantIsKept : Prop :=
  ∀ (s : State), PortInv s.dev.host.p0 → PortInv s.dev.host.p1 →
    Nexts (step s) fun t => PortInv t.dev.host.p0 ∧ PortInv t.dev.host.p1

/-- The commands of one host port leave the other port's queue, path, scopes and counters as they were. -/
def Obligations.OtherPortIsUntouched : Prop :=
  ∀ (s : State) (p : Port) (c : Instr) (r : Request) (line : BitVec 26),
    c ∈ [.hrstAssert p, .hrstRelease p, .requestTaken p r, .responseTaken p, .readBegin p, .readHazardClear p line,
      .writeBegin p, .openMark p, .closeMark p, .abandonMark p, .markKindNone p] →
    Nexts (exec c s) fun t =>
      t.dev.host.get p.other = s.dev.host.get p.other ∧ t.dev.scope.get p.other = s.dev.scope.get p.other ∧
      t.dev.counters.port.get p.other = s.dev.counters.port.get p.other ∧
      t.dev.array.hostReq.get p.other = s.dev.array.hostReq.get p.other

/-! ## Markers -/

/-- The checks on a MARK in the order of Table 1-3 from order 2 on: NOJOURNAL, JOURNAL_FAULT, DEPTH, LEVEL; a MARK of no
marker kind is answered LEVEL at the last (R4, R146, R174). -/
def Obligations.MarkersAreRefused : Prop :=
  ∀ (q : List Instr) (p : Port) (d : Device) (i : Nat) (e : Entry),
    let h := d.host.get p
    let depth := (d.scope.get p).stack.length
    let level := e.req.level.toNat
    let answer (code : RespCode) : Prop :=
      exec (beginCommand p e.req) ⟨q, d⟩ = .next ⟨q, withPort d p (answered h i e code 0#512)⟩
    let runs := d.part = .running ∧ d.journal.faulted = false
    Starts d p i e → reqKind e.req = .mark →
    (d.part = .unformatted ∨ d.part = .failed → answer .noJournal) ∧
    (d.part = .running → d.journal.faulted = true → answer .journalFault) ∧
    (runs → markKind e.req = .openScope → depth = 4 → answer .depth) ∧
    (runs → markKind e.req = .openScope → depth ≠ 4 → level ≠ depth + 1 → answer .level) ∧
    (runs → markKind e.req = .closeScope ∨ markKind e.req = .abandonScope →
      level ≠ depth ∨ level = 0 ∨ 4 < level → answer .level) ∧
    (runs → markKind e.req = .none → answer .level)

/-- The markers that pass the checks stay begun. An OPEN hands its record to the journal writer with the port's serial
counter (R5); a CLOSE one with the serial of the top entry, MERGED above level 1 (R7), COMMITTED at level 1 with the timer
stopped (R8). An ABANDON makes the port UNWINDING, stops the timer of a level-1 scope, advances HOST_ABANDONS and queues a
job "level L" with cause ABANDONED-HOST, the stack as it is (R10, R98). -/
def Obligations.MarkersAreCarriedOut : Prop :=
  ∀ (q : List Instr) (p : Port) (d : Device) (i : Nat) (e : Entry),
    let h := d.host.get p
    let s := d.scope.get p
    let c := d.counters.port.get p
    let level := e.req.level.toNat
    let marked : Device := withPort d p (reached h i e .marker s.stack.length)
    let handing (x : Item) : Device :=
      { marked with journal := { d.journal with queue := d.journal.queue ++ [x] } }
    Starts d p i e → reqKind e.req = .mark → d.part = .running → d.journal.faulted = false →
    (markKind e.req = .openScope → s.stack.length < 4 → level = s.stack.length + 1 →
      exec (.openMark p) ⟨q, d⟩ = .next ⟨q, handing ⟨.marker, p, level, s.serialCounter, .openScope⟩⟩) ∧
    (∀ top below, s.stack = top :: below → level = s.stack.length →
      (markKind e.req = .closeScope → 2 ≤ level → level ≤ 4 →
        exec (.closeMark p) ⟨q, d⟩ = .next ⟨q, handing ⟨.marker, p, level, top.serial, .close .merged⟩⟩) ∧
      (markKind e.req = .closeScope → level = 1 →
        exec (.closeMark p) ⟨q, d⟩ = .next ⟨q, { handing ⟨.marker, p, 1, top.serial, .close .committed⟩ with
          scope := d.scope.set p { s with running := false } }⟩) ∧
      (markKind e.req = .abandonScope → level ≤ 4 →
        exec (.abandonMark p) ⟨q, d⟩ = .next ⟨q, { marked with
          scope := d.scope.set p { s with state := .unwinding, running := if level = 1 then false else s.running }
          counters := { d.counters with
            port := d.counters.port.set p { c with hostAbandons := counted c.hostAbandons } }
          rollback := { d.rollback with
            jobs := d.rollback.jobs ++ [⟨p, .level level, .abandonedHost, 0, 0, .waiting, 0⟩] } }⟩))

/-! ## Array port and arbiter -/

/-- The arbiter grants one waiting request when no access is outstanding, by class: anchor unit, journal writer, rollback
engine, recovery engine, host work; between the ports the one not last granted, and a port's oldest access first (R156).
The access number advances modulo 16 and the access takes the timeout in force (R155, R157). -/
def Obligations.TheArbiterGrantsByClass : Prop :=
  ∀ (q : List Instr) (p : Port) (d : Device) (x : Access) (rest : List Access),
    let a := d.array
    let grants (left : ArrayPort) (who : Requester) : Prop :=
      exec .accessGrant ⟨q, d⟩ = .next ⟨q, { d with
        array := { left with
          outstanding := some ⟨x, who, a.number + 1#4, a.timeout⟩, number := a.number + 1#4 } }⟩
    let engines := a.anchorReq = none ∧ a.journalReq = none ∧ a.rollbackReq = none ∧ a.recoveryReq = none
    (a.outstanding = none →
      (a.anchorReq = some x → grants { a with anchorReq := none } .anchor) ∧
      (a.anchorReq = none → a.journalReq = some x → grants { a with journalReq := none } .journal) ∧
      (a.anchorReq = none → a.journalReq = none → a.rollbackReq = some x →
        grants { a with rollbackReq := none } .rollback) ∧
      (a.anchorReq = none → a.journalReq = none → a.rollbackReq = none → a.recoveryReq = some x →
        grants { a with recoveryReq := none } .recovery) ∧
      (engines → a.hostReq.get p = x :: rest → a.hostReq.get p.other = [] ∨ a.lastHost = p.other →
        grants { a with hostReq := a.hostReq.set p rest, lastHost := p } (.host p)) ∧
      (engines → a.hostReq.get p = [] → a.hostReq.get p.other = [] → exec .accessGrant ⟨q, d⟩ = .next ⟨q, d⟩)) ∧
    (a.outstanding ≠ none → exec .accessGrant ⟨q, d⟩ = .next ⟨q, d⟩)

/-- An answer with a number other than the outstanding access's, or with none outstanding, is discarded and counted in
LATE_RESPONSES alone (R157). -/
def Obligations.LateResponsesAreOnlyCounted : Prop :=
  ∀ (q : List Instr) (d : Device) (n : BitVec 4) (ok : Bool) (data : LineData),
    (∀ o, d.array.outstanding = some o → o.number ≠ n) →
    exec (.arrayAnswer n ok data) ⟨q, d⟩ = .next ⟨q, { d with
      counters := { d.counters with lateResponses := counted d.counters.lateResponses } }⟩

/-- The array answers host work without error: a READ is answered OK with the words from its start word for its word count
(R89, R151), a plain write and a target write OK without data (R81, R86); a pre-image read hands an IMAGE item of the
write's line, level and top serial to the journal writer (R83, R84). -/
def Obligations.HostWorkIsAnswered : Prop :=
  ∀ (q : List Instr) (p : Port) (d : Device) (o : Outstanding) (data : LineData) (i : Nat) (e : Entry),
    let h := d.host.get p
    d.array.outstanding = some o → o.requester = .host p → h.lineIndex (accessLine o.access) = some i →
    h.queue[i]? = some e →
    (e.stage = .readAccess → ∃ words : LineData,
      exec (.arrayAnswer o.number true data) ⟨q, d⟩ = .next ⟨q, portFree (withPort d p (answered h i e .ok words))⟩ ∧
      ∀ w, w < 16 → words.extractLsb' (32 * w) 32 =
        if e.req.startWord.toNat ≤ w ∧ w < e.req.startWord.toNat + (e.req.countField.toNat + 1)
        then data.extractLsb' (32 * w) 32 else 0#32) ∧
    (e.stage = .plain ∨ e.stage = .target →
      exec (.arrayAnswer o.number true data) ⟨q, d⟩ = .next ⟨q, portFree (withPort d p (answered h i e .ok 0#512))⟩) ∧
    (e.stage = .preRead → ∀ top below, (d.scope.get p).stack = top :: below →
      exec (.arrayAnswer o.number true data) ⟨q, d⟩ = .next ⟨q,
        { portFree (withPort d p (reached h i e .append e.level)) with
          journal := { d.journal with
            queue := d.journal.queue ++ [⟨.write, p, e.level, top.serial, .image (reqLine e.req) data⟩] } }⟩)

/-- An access of host work ends with ERROR or a timeout: ARRAY_ERRORS advances, ARRAY_TIMEOUTS for a timeout (R157,
R158); MEDIA is latched and the request answered MEDIA (R81, R83, R86, R89); for a pre-image read the claim change is
undone (R32). -/
def Obligations.HostWorkFails : Prop :=
  ∀ (q : List Instr) (p : Port) (d : Device) (o : Outstanding) (data : LineData) (i : Nat) (e : Entry),
    let h := d.host.get p
    let line := accessLine o.access
    let failed (claims : ClaimTable) (timeouts : BitVec 32) : Device :=
      { portFree (withPort d p (answered h i e .media 0#512)) with
        claims := claims
        alerts := { d.alerts with latches := d.alerts.latches ||| 0x040#10 }
        counters := { d.counters with arrayErrors := counted d.counters.arrayErrors, arrayTimeouts := timeouts } }
    let outcome (claims : ClaimTable) : Prop :=
      exec (.arrayAnswer o.number false data) ⟨q, d⟩ = .next ⟨q, failed claims d.counters.arrayTimeouts⟩ ∧
      exec .arrayResponseTimeout ⟨q, d⟩ = .next ⟨q, failed claims (counted d.counters.arrayTimeouts)⟩
    d.array.outstanding = some o → o.requester = .host p → h.lineIndex line = some i → h.queue[i]? = some e →
    (e.stage = .readAccess ∨ e.stage = .plain ∨ e.stage = .target → outcome d.claims) ∧
    (e.stage = .preRead → ∀ s c, ClaimedAt d.claims line s c →
      outcome ⟨d.claims.slots.set s
        (if c.images = ⟨none, none, none, none⟩ then none else some { c with recording := false })⟩)

/-- No host write reaches the anchor area: where the write accesses of host work, the begun writes and their IMAGE items
name lines from 4 up, they do so after every step (R68). -/
def Obligations.NoHostWriteReachesTheAnchorArea : Prop :=
  ∀ s : State, HostWritesClear s.dev → Nexts (step s) fun t => HostWritesClear t.dev

/-! ## Journal writer -/

/-- The writer takes the front item, or takes a held one again, and finds room against the anchored tail: the append is
issued and its first write asked for (R49, R50). The need is 2 cells for a CLOSE, 10 for an OPEN, 12 and the PAD for an
IMAGE. -/
def Obligations.TheWriterIssuesAnAppend : Prop :=
  ∀ (q : List Instr) (d : Device) (c : Instr) (i : Item) (behind : List Item) (first : Access) (rest : List Access),
    let j := d.journal
    let toEnd := 2 * j.lines - j.head
    let pad := match i.record with
      | .openScope => 0
      | .image _ _ => if toEnd < 3 then toEnd else 0
      | .close _ => 0
    let need := match i.record with
      | .openScope => 10
      | .image _ _ => 12 + pad
      | .close _ => 2
    let distance := (j.head + 2 * j.lines - j.tail % (2 * j.lines)) % (2 * j.lines)
    j.queue = i :: behind → j.append = none → j.faulted = false → need ≤ 2 * j.lines - distance →
    (c = .takeAppendItem ∧ j.held = none) ∨ (c = .heldItemRetake ∧ j.held = some Hold.over) →
    j.appendWrites i = first :: rest →
    exec c ⟨q, d⟩ = .next ⟨q, { d with
      journal := { j with
        queue := behind, held := none, append := some ⟨i, pad, if pad = 0 then j.head else 0, rest⟩ }
      array := { d.array with journalReq := some first } }⟩

/-- The live tail is the tree start farther back from the head, the one there is, or the head with the next sequence (R53);
the free cells against each tail and the lag are the distances of R55 and R56. By them, the other rows of Table 3-5, for an
OPEN of port p's begun marker and for the IMAGE of its begun write: JOURNAL_FAULT while FAULTED; held for an update the
writer asks for; in STOPPING held while an update is in progress, HALTED when none is; JOURNAL_FULL (R49, R56, R57, R63). A
refused IMAGE undoes its claim change before it is answered (R32). -/
def Obligations.TheWriterHoldsOrRefuses : Prop :=
  (∀ j : Journal, 0 < j.lines →
    let cells : Int := 2 * j.lines
    let back (tail : Nat) : Int := ((j.head : Int) - tail) % cells
    (∀ a b, j.treeStart = ⟨some a, some b⟩ →
      (back b.position < back a.position → j.liveTail = a) ∧ (back a.position < back b.position → j.liveTail = b)) ∧
    (∀ a, j.treeStart = ⟨some a, none⟩ ∨ j.treeStart = ⟨none, some a⟩ → j.liveTail = a) ∧
    (j.treeStart = ⟨none, none⟩ → j.liveTail = ⟨j.head, j.nextSeq⟩) ∧
    (j.freeAnchored : Int) = cells - back j.tail ∧ (j.freeLive : Int) = cells - back j.liveTail.position ∧
    (j.lag : Int) = ((j.liveTail.position : Int) - j.tail) % cells) ∧
  ∀ (q : List Instr) (p : Port) (d : Device) (c : Instr) (i : Item) (behind : List Item) (k : Nat) (e : Entry),
    let j := d.journal
    let h := d.host.get p
    let room (free : Nat) : Prop := j.need i.record ≤ free
    let isOpen := i.source = .marker ∧ i.record = .openScope ∧ h.markIndex = some k
    let isImage := i.source = .write ∧ ∃ line body s x,
      i.record = .image line body ∧ h.lineIndex line = some k ∧ ClaimedAt d.claims line s x
    let refusal (code : RespCode) : Prop :=
      Nexts (exec c ⟨q, d⟩) fun t =>
        t.dev.journal = { j with queue := behind, held := none } ∧ t.dev.host = d.host.set p (answered h k e code 0#512) ∧
        t.dev.scope = d.scope ∧ t.dev.array = d.array ∧ t.dev.anchor = d.anchor ∧ t.dev.alerts = d.alerts ∧
        (isOpen → t.dev.claims = d.claims) ∧
        (∀ line body s x, i.source = .write → i.record = .image line body → ClaimedAt d.claims line s x →
          t.dev.claims.slots = d.claims.slots.set s
            (if x.images = ⟨none, none, none, none⟩ then none else some { x with recording := false }))
    j.queue = i :: behind → j.append = none → i.port = p → h.queue[k]? = some e →
    (c = .takeAppendItem ∧ j.held = none) ∨ (c = .heldItemRetake ∧ j.held = some Hold.over) →
    isOpen ∨ isImage →
    (j.faulted = true → refusal .journalFault) ∧
    (j.faulted = false → ¬room j.freeAnchored → room j.freeLive → d.part ≠ .stopping →
      exec c ⟨q, d⟩ = .next ⟨q, { d with
        journal := { j with held := some .request }
        anchor := { d.anchor with
          writerReq := if d.anchor.writerReq = .none then .pending else d.anchor.writerReq } }⟩) ∧
    (j.faulted = false → ¬room j.freeAnchored → room j.freeLive → d.part = .stopping → d.anchor.update ≠ none →
      exec c ⟨q, d⟩ = .next ⟨q, { d with journal := { j with held := some .updateEnd } }⟩) ∧
    (j.faulted = false → ¬room j.freeAnchored → room j.freeLive → d.part = .stopping → d.anchor.update = none →
      refusal .halted) ∧
    (j.faulted = false → ¬room j.freeAnchored → ¬room j.freeLive → refusal .journalFull)

/-- What stands in the array after the writes of a record. An OPEN or CLOSE: the header of Table 3-3 with its check in the
cell of the head, the other cell of the line as it was. An IMAGE: a header with its check, the pre-image in the two cells
after it, at cell 0 when a PAD went first, the cell beside it as it was; the PAD fills the cells to the end of the journal
(R42, R43, R46, R47, R59). -/
def Obligations.RecordsReadBack : Prop :=
  ∀ (j : Journal) (i : Item) (old1 old2 new1 new2 : LineData),
    let header : Header :=
      { kind := match i.record with
          | .openScope => 1#8
          | .image _ _ => 2#8
          | .close _ => 3#8
        port := match i.port with
          | .p0 => 0#8
          | .p1 => 1#8
        level := BitVec.ofNat 8 i.level
        code := match i.record with
          | .close code => closeValue code
          | _ => 0#8
        epoch := j.epoch, serial := i.serial, sequence := j.nextSeq
        prior := match i.record, i.level, j.last.get i.port with
          | .openScope, 1, _ => 0xFFFFFFFF#32
          | _, _, none => 0xFFFFFFFF#32
          | _, _, some c => BitVec.ofNat 32 c
        target := 0#32, length := 1#8, zero := 0#56, check := 0#32 }
    let toEnd := 2 * j.lines - j.head
    let padded := toEnd < 3 ∧ toEnd ≠ 0
    ((∀ line body, i.record ≠ .image line body) →
      ∃ a, j.appendWrites i = [a] ∧ accessLine a = j.base + j.head / 2 ∧
        ((∀ k, k < 64 → lineByte new1 k = byteAfter a old1 k) →
          decodeHeader (halfOf new1 (j.head % 2 == 1)) = { header with check := recordCheck header none } ∧
          halfOf new1 (j.head % 2 == 0) = halfOf old1 (j.head % 2 == 0))) ∧
    (∀ line body, i.record = .image line body →
      let start := if padded then 0 else j.head
      let image : Header := { header with
        sequence := if padded then j.nextSeq + 1#32 else j.nextSeq
        target := BitVec.ofNat 32 line, length := 3#8 }
      let pad : Header :=
        { kind := 4#8, port := header.port, level := 0#8, code := 0#8, epoch := j.epoch, serial := 0#16,
          sequence := j.nextSeq, prior := 0xFFFFFFFF#32, target := 0#32, length := BitVec.ofNat 8 toEnd, zero := 0#56,
          check := 0#32 }
      ∃ pads a b, j.appendWrites i = pads ++ [a, b] ∧
        accessLine a = j.base + start / 2 ∧ accessLine b = j.base + (start + 2) / 2 ∧
        (¬padded → pads = []) ∧
        (padded → ∃ w, pads = [w] ∧ accessLine w = j.base + j.head / 2 ∧
          ((∀ k, k < 64 → lineByte new1 k = byteAfter w old1 k) →
            decodeHeader (headerCell j.head new1) = { pad with check := recordCheck pad none } ∧
            (toEnd = 1 → halfOf new1 false = halfOf old1 false))) ∧
        ((∀ k, k < 64 → lineByte new1 k = byteAfter a old1 k) → (∀ k, k < 64 → lineByte new2 k = byteAfter b old2 k) →
          decodeHeader (headerCell start new1) = { image with check := recordCheck image (some body) } ∧
          imageBody start new1 new2 = body ∧
          (start % 2 = 0 → halfOf new2 true = halfOf old2 true) ∧
          (start % 2 = 1 → halfOf new1 false = halfOf old1 false)))

/-- A marker's OPEN record is durable: the head, the sequence, the last-record position and the tree start of a level-1
OPEN move (R50); the scope is pushed with its serial and position, the counter advances, the timer of a level-1 scope
starts at age 0 unless a forced abandon is pending or the part is STOPPING, with the limit and action set by then (R5, R15,
R17), and the OPEN is answered OK (R5), after the JLOW and lag checks (R56, R58). -/
def Obligations.OpenRecordDurable : Prop :=
  ∀ (q : List Instr) (p : Port) (d : Device) (n : BitVec 4) (data : LineData) (o : Outstanding) (a : Append) (k : Nat)
    (e : Entry),
    let j := d.journal
    let h := d.host.get p
    let s := d.scope.get p
    let pushed : ScopePort :=
      { s with stack := ⟨a.item.serial, a.position⟩ :: s.stack, serialCounter := s.serialCounter + 1#16 }
    AppendEnds d n o a → a.item.source = .marker → a.item.record = .openScope → a.item.port = p → a.pad = 0 →
    h.markIndex = some k → h.queue[k]? = some e →
    exec (.arrayAnswer n true data) ⟨q, d⟩ = .next ⟨q,
      let d := { portFree d with
        journal := appendedTo j a (j.last.set p (some a.position))
          (if a.item.level = 1 then j.treeStart.set p (some ⟨a.position, j.nextSeq⟩) else j.treeStart) }
      let d := lagChecked (jlowChecked d)
      { withPort d p (answered h k e .ok 0#512) with
        scope := d.scope.set p
          (if a.item.level = 1 then
            { pushed with age := 0, scopeLimit := s.limit, scopeAction := s.action, expired := false,
                          running := s.pendingAbandon.isNone && decide (d.part ≠ .stopping) }
           else pushed) }⟩

/-- A CLOSE record is durable. Of a marker: MERGED merges the level into the one below it and pops the top entry (R7, R35);
COMMITTED frees the port's entries, pops the last scope, clears the tree start, checks the lag again and advances COMMITS
(R8, R36, R53); the CLOSE is answered OK. Of a rollback job (R103, R104): the last one ends it complete. A job "level L" pops
the top entry and answers the ABANDON OK (R11); a job "all levels" empties the stack and answers a FORCE ABANDON DONE with
its counts (R19, R21), having handed over the next level's record after each level above 1, or ending stopped in STOPPING
(R109). At depth 0 the tree start is cleared (R53). The port is then ACTIVE, or RESETTING where a reset is noted and its line
or an abandon holds it there (R14); a PORTRESET is taken where a reset is noted, scopes remain and no abandon is pending
(R20). That a RESETTING port is settled in every part state is log entry 32. -/
def Obligations.CloseRecordDurable : Prop :=
  ∀ (q : List Instr) (p : Port) (d : Device) (n : BitVec 4) (data : LineData) (o : Outstanding) (a : Append),
    let j := d.journal
    let h := d.host.get p
    let s := d.scope.get p
    let level := a.item.level
    let checked := lagChecked (jlowChecked { portFree d with
      journal := appendedTo j a (j.last.set p (some a.position)) j.treeStart })
    let answers (t : Device) : Prop := exec (.arrayAnswer n true data) ⟨q, d⟩ = .next ⟨q, t⟩
    AppendEnds d n o a → a.item.port = p → a.pad = 0 →
    (∀ (k : Nat) (e : Entry), a.item.source = .marker → h.markIndex = some k → h.queue[k]? = some e →
      let c := d.counters.port.get p
      (a.item.record = .close .merged →
        answers { withPort checked p (answered h k e .ok 0#512) with
          claims := ⟨d.claims.slots.map fun x => x.map (mergeClaim p level)⟩
          scope := d.scope.set p { s with stack := s.stack.tail } }) ∧
      (a.item.record = .close .committed → s.stack.length = 1 → answers (
        let d := lagChecked { checked with
          claims := ⟨d.claims.slots.map fun x => x.bind fun c => if c.port = p then none else some c⟩
          scope := d.scope.set p { s with stack := [] }
          journal := { checked.journal with treeStart := j.treeStart.set p none } }
        { withPort d p (answered h k e .ok 0#512) with
          counters := { d.counters with port := d.counters.port.set p { c with commits := counted c.commits } } }))) ∧
    ∀ (job : Job) (others : List Job), a.item.source = .rollback → a.item.record = .close job.cause →
      d.rollback.jobs = job :: others → job.port = p → (∀ x ∈ others, x.port ≠ p) → job.phase = .closing →
      s.state = .unwinding ∨ s.state = .resetting →
      let cleared := lagChecked { checked with
        journal := { checked.journal with treeStart := j.treeStart.set p none } }
      let ended (d : Device) (s : ScopePort) : Device :=
        let held := s.resetNoted && (h.hrst || s.pendingAbandon.isSome)
        { d with
          rollback := ⟨others, none⟩
          scope := d.scope.set p { s with state := if held then .resetting else .active, resetNoted := held } }
      let portReset := s.resetNoted && decide (d.part = .running) && s.pendingAbandon.isNone
      (∀ (k : Nat) (e : Entry), job.kind = .level level → s.stack.length = level → h.markIndex = some k →
        h.queue[k]? = some e →
        (level = 1 → answers (withPort (ended cleared { s with stack := [] }) p (answered h k e .ok 0#512))) ∧
        (2 ≤ level → answers (withPort (ended checked { s with
          stack := s.stack.tail
          pendingAbandon := if portReset then some .portReset else s.pendingAbandon
          running := s.running && !portReset }) p (answered h k e .ok 0#512)))) ∧
      (job.kind = .all →
        (level = 1 → answers { ended cleared { s with stack := [] } with
          link := toldOf d.link (.force p) .done (forceCounts s.stack.length job.restored) }) ∧
        (2 ≤ level → d.part = .stopping → answers { checked with rollback := ⟨others, none⟩ }) ∧
        (2 ≤ level → level ≤ s.stack.length → d.part ≠ .stopping →
          ∃ e, s.stack[s.stack.length - (level - 1)]? = some e ∧ answers { checked with
            rollback := ⟨{ job with closed := job.closed + 1 } :: others, d.rollback.hand⟩
            journal := { checked.journal with
              queue := checked.journal.queue ++ [⟨.rollback, p, level - 1, e.serial, .close job.cause⟩] } }))

/-- An IMAGE of a journaled write is durable: the entry of its line holds the image at the write's level and is HELD,
IMAGES advances (R31), and only then the target write is asked for, with the writer's pointers moved past the record and
its PAD (R50, R85). -/
def Obligations.ImageRecordDurable : Prop :=
  ∀ (q : List Instr) (p : Port) (d : Device) (n : BitVec 4) (data body : LineData) (o : Outstanding) (a : Append) (k line : Nat)
    (e : Entry) (slot : Fin 256) (x : Claim),
    let j := d.journal
    let h := d.host.get p
    let c := d.counters.port.get p
    let r := e.req
    let access : Access :=
      if r.startWord = 0#4 ∧ r.countField = 15#4 ∧ r.enables = 0xFFFFFFFFFFFFFFFF#64 then .writeFull line r.data
      else .writePart line r.startWord.toNat (r.countField.toNat + 1) r.enables r.data
    AppendEnds d n o a → a.item.source = .write → a.item.record = .image line body → a.item.port = p →
    h.lineIndex line = some k → h.queue[k]? = some e → ClaimedAt d.claims line slot x →
    exec (.arrayAnswer n true data) ⟨q, d⟩ = .next ⟨q,
      let d := lagChecked (jlowChecked { portFree d with
        journal := appendedTo j a (j.last.set p (some a.position)) j.treeStart })
      { withPort d p (reached h k e .target e.level) with
        claims := ⟨d.claims.slots.set slot
          (some { x with images := putImage x.images a.item.level (some a.position), recording := false })⟩
        counters := { d.counters with port := d.counters.port.set p { c with images := counted c.images } }
        array := { d.array with hostReq := d.array.hostReq.set p (d.array.hostReq.get p ++ [access]) } }⟩

/-- A write of an append is answered with ERROR or times out: the journal is FAULTED with its head, sequence and tails as
they were, no item stays queued or in progress, JFAULT and MEDIA are latched, ARRAY_ERRORS advances, and ARRAY_TIMEOUTS for
a timeout (R60, R157, R158). The item in progress and every queued one are refused JOURNAL_FAULT: a marker's OPEN or CLOSE
and the write of an IMAGE are so answered, and the claim change of each such write is undone, other entries staying (R32);
a closing record of recovery fails it with cause CLOSE_APPEND (R134, R135). A failed level-1 CLOSE runs its timer again, an
expiry that is due being taken at once, unless a forced abandon is pending or the part is STOPPING (R9; which limit and
action apply, and that no second ALERT follows, is log entry 8). A CLOSE of a rollback job ends the job append failed (R103,
R106): the port is WEDGED with its stack as it is (R13), a host ABANDON is answered JOURNAL_FAULT (R11) and a FORCE ABANDON
MEDIA with its counts (R21); that it ends so in STOPPING too is log entry 40. -/
def Obligations.AppendWriteFails : Prop :=
  ∀ (q : List Instr) (d : Device) (data : LineData) (o : Outstanding) (a : Append) (c : Instr),
    let items := a.item :: d.journal.queue
    let told (t : Device) (p : Port) (e : Entry) : Prop :=
      e.withheld = false → ⟨e.req.tag, .journalFault, 0#512, false⟩ ∈ (t.host.get p).path
    d.array.outstanding = some o → o.requester = .journal → d.journal.append = some a →
    c = .arrayAnswer o.number false data ∨ c = .arrayResponseTimeout →
    Nexts (exec c ⟨q, d⟩) fun t =>
      t.dev.journal = { d.journal with faulted := true, queue := [], held := none, append := none } ∧
      t.dev.alerts.latches &&& 0x048#10 = 0x048#10 ∧
      t.dev.counters = { d.counters with
        arrayErrors := counted d.counters.arrayErrors
        arrayTimeouts :=
          if c = .arrayResponseTimeout then counted d.counters.arrayTimeouts else d.counters.arrayTimeouts } ∧
      t.dev.array = { d.array with outstanding := none } ∧
      (∀ i ∈ items, i.source = .marker → ∀ k e, (d.host.get i.port).markIndex = some k →
        (d.host.get i.port).queue[k]? = some e → told t.dev i.port e) ∧
      (∀ i ∈ items, i.source = .write → ∀ line body, i.record = .image line body →
        (∀ k e, (d.host.get i.port).lineIndex line = some k → (d.host.get i.port).queue[k]? = some e →
          told t.dev i.port e) ∧
        ∀ slot x, ClaimedAt d.claims line slot x → t.dev.claims.slots[slot] =
          if x.images = ⟨none, none, none, none⟩ then none else some { x with recording := false }) ∧
      (∀ slot : Fin 256, (∀ i ∈ items, i.source = .write → ∀ line body, i.record = .image line body →
        ∀ x, d.claims.slots[slot] = some x → x.line ≠ line) → t.dev.claims.slots[slot] = d.claims.slots[slot]) ∧
      (a.item.source = .recovery → d.part = .recovering →
        t.dev.part = .failed ∧ t.dev.recovery.result = .failed ∧ t.dev.recovery.cause = some .closeAppend) ∧
      (∀ i ∈ items, i.source = .marker → (∃ code, i.record = .close code) → i.level = 1 →
        (∀ x ∈ items, x.source = .recovery ∨ x.source = .rollback → x.source = .rollback ∧ x.port ≠ i.port) →
        let s := d.scope.get i.port
        let rerun : ScopePort := { s with running := true }
        let runs := s.pendingAbandon = none ∧ d.part ≠ .stopping
        let due := s.scopeLimit ≠ 0#16 ∧ s.scopeLimit.toNat ≤ s.age ∧ s.expired = false
        let after := t.dev.scope.get i.port
        (¬runs → after = s) ∧ (runs → ¬due → after = rerun) ∧
        (runs → due → t.dev.alerts.latches.getLsbD i.port.num = true ∧
          (s.scopeAction = .alert → after = { rerun with expired := true }) ∧
          (s.scopeAction = .abandon → d.part = .running → s.state ≠ .wedged →
            (∀ j ∈ d.rollback.jobs, j.port = i.port → j.kind ≠ .all) →
            after = { s with running := false, pendingAbandon := some .timer }))) ∧
      ∀ i ∈ items, i.source = .rollback → ∀ j ∈ d.rollback.jobs, j.port = i.port →
        (∀ x ∈ d.rollback.jobs, x.port = j.port → x = j) → (∀ x ∈ items, x.source = .marker → x.port ≠ j.port) →
        (∀ x ∈ t.dev.rollback.jobs, x.port ≠ j.port) ∧
        t.dev.scope.get j.port =
          { d.scope.get j.port with state := .wedged, running := false, resetNoted := false } ∧
        t.dev.alerts.latches.getLsbD (4 + j.port.num) = true ∧
        (∀ l k e, j.kind = .level l → (d.host.get j.port).markIndex = some k →
          (d.host.get j.port).queue[k]? = some e → told t.dev j.port e) ∧
        (j.kind = .all → d.link.slot = .working (.force j.port) → t.dev.link.slot =
          .ready .media (forceCounts (d.scope.get j.port).stack.length j.restored))

/-! ## Claim table and region table -/

/-- A merge of level L into level L - 1, L from 2 to 4, by the durable CLOSE MERGED record of a marker (R35): an image at L of
an entry of the port moves to L - 1 where none is held there and is dropped where one is; every other image, entry and slot
is as it was, each entry keeping its state. -/
def Obligations.MergeMovesOrDropsImages : Prop :=
  ∀ (q : List Instr) (p : Port) (d : Device) (n : BitVec 4) (data : LineData) (o : Outstanding) (a : Append),
    let level := a.item.level
    AppendEnds d n o a → a.item.source = .marker → a.item.record = .close .merged → a.item.port = p →
    2 ≤ level → level ≤ 4 →
    Nexts (exec (.arrayAnswer n true data) ⟨q, d⟩) fun t => ∀ i : Fin 256,
      let slot := t.dev.claims.slots[i]
      (d.claims.slots[i] = none → slot = none) ∧
      ∀ c, d.claims.slots[i] = some c →
        (c.port ≠ p ∨ imageAt c.images level = none → slot = some c) ∧
        (c.port = p → ∀ cell, imageAt c.images level = some cell → ∃ images,
          slot = some { c with images := images } ∧ imageAt images level = none ∧
          imageAt images (level - 1) =
            (match imageAt c.images (level - 1) with
              | some kept => some kept
              | none => some cell) ∧
          ∀ other, other ≠ level → other ≠ level - 1 → imageAt images other = imageAt c.images other)

/-- A WRITE's line is matched against the enabled entries in order of index; the first that covers it gives mode and
policy, and with none the default mode applies with policy REFUSE (R69). -/
def Obligations.FirstEnabledRegionDecides : Prop :=
  ∀ (t : RegionTable) (line : Nat),
    let covers (i : Fin 8) : Prop :=
      t.entries[i].enabled = true ∧ t.entries[i].first ≤ line ∧ line ≤ t.entries[i].last
    (∀ i : Fin 8, covers i → (∀ j : Fin 8, j < i → ¬covers j) →
      t.classify line = (t.entries[i].mode, t.entries[i].allow)) ∧
    ((∀ i : Fin 8, ¬covers i) → t.classify line = (t.defaultMode, false))

/-- No step gives two claim entries one line (R23). -/
def Obligations.OneClaimForALine : Prop :=
  ∀ s : State, ClaimInv s.dev.claims → Nexts (step s) fun t => ClaimInv t.dev.claims

/-! ## Rollback engine -/

/-- The idle engine takes the job at the front in RUNNING (R98): FAULTED ends it append failed with the port WEDGED (R106,
R13), a host ABANDON answered JOURNAL_FAULT (R11) and a FORCE ABANDON MEDIA with its counts (R21); the lowest slot with an
entry the job restores is named and the first line of its IMAGE record asked for (R99 to R101); with none left the job hands
over its first CLOSE record (R103). -/
def Obligations.RollbackJobIsTaken : Prop :=
  ∀ (q : List Instr) (d : Device) (j : Job) (others : List Job) (slot : Fin 256) (c : Claim) (cell : Nat),
    let s := d.scope.get j.port
    let wanted (x : Claim) : Prop := x.port = j.port ∧
      (match j.kind with
        | .level l => imageAt x.images l ≠ none
        | .all => x.images ≠ ⟨none, none, none, none⟩)
    let image := match j.kind with
      | .level l => imageAt c.images l
      | .all => (c.images.l1.or c.images.l2).or (c.images.l3.or c.images.l4)
    let level := match j.kind with
      | .level l => l
      | .all => s.stack.length
    d.rollback.jobs = j :: others → (∀ x ∈ others, x.port ≠ j.port) → j.phase = .waiting → d.part = .running →
    (d.journal.faulted = false → d.claims.slots[slot] = some c → wanted c → j.cursor ≤ slot.val → image = some cell →
      (∀ k : Fin 256, k < slot → j.cursor ≤ k.val → ∀ x, d.claims.slots[k] = some x → ¬wanted x) →
      exec .rollbackJobTake ⟨q, d⟩ = .next ⟨q, { d with
        rollback := ⟨{ j with phase := .restoring } :: others, some ⟨slot, c.line, cell, .readHeader⟩⟩
        array := { d.array with rollbackReq := some (.readLine (d.journal.base + cell / 2)) } }⟩) ∧
    (d.journal.faulted = false → (∀ k : Fin 256, j.cursor ≤ k.val → ∀ x, d.claims.slots[k] = some x → ¬wanted x) →
      1 ≤ level → level ≤ s.stack.length →
      ∃ e, s.stack[s.stack.length - level]? = some e ∧
        exec .rollbackJobTake ⟨q, d⟩ = .next ⟨q, { d with
          rollback := { d.rollback with jobs := { j with phase := .closing } :: others }
          journal := { d.journal with
            queue := d.journal.queue ++ [⟨.rollback, j.port, level, e.serial, .close j.cause⟩] } }⟩) ∧
    (d.journal.faulted = true → Nexts (exec .rollbackJobTake ⟨q, d⟩) fun t =>
      t.dev.rollback.jobs = others ∧ t.dev.rollback.hand = none ∧ t.dev.claims = d.claims ∧ t.dev.array = d.array ∧
      t.dev.scope = d.scope.set j.port { s with state := .wedged, running := false, resetNoted := false } ∧
      t.dev.alerts.latches = d.alerts.latches |||
        (match j.port with
          | .p0 => 0x010#10
          | .p1 => 0x020#10) ∧
      (j.kind = .all → t.dev.host = d.host ∧
        t.dev.link = toldOf d.link (.force j.port) .media (forceCounts s.stack.length j.restored)) ∧
      (∀ l k e, j.kind = .level l → (d.host.get j.port).markIndex = some k →
        (d.host.get j.port).queue[k]? = some e → t.dev.link = d.link ∧
        t.dev.host = d.host.set j.port (answered (d.host.get j.port) k e .journalFault 0#512)))

/-- A restore runs through its two reads, its checks and its write (R101, R102): the line is written only with a record of
kind IMAGE for that line whose check matches; then the claim table loses the image, the job counts the line and searches
again from the next slot (R37, R38, R99, R100): the lowest slot with an entry it restores is next, with none left it hands
over its first CLOSE record, a journal found FAULTED ends it append failed (R106), and in STOPPING it ends stopped, a host
ABANDON being answered HALTED and the port keeping its state (R109, R11).
A failed access or a failed check ends the job with MEDIA latched and the port WEDGED, its entry kept (R105), a host ABANDON
answered MEDIA (R11) and a FORCE ABANDON MEDIA with its counts (R21). -/
def Obligations.RestoreReadsChecksAndWrites : Prop :=
  ∀ (q : List Instr) (d : Device) (o : Outstanding) (j : Job) (others : List Job) (h : InHand) (data : LineData),
    let s := d.scope.get j.port
    let host := d.host.get j.port
    let reads (step : RestoreStep) (access : Access) : Device :=
      { portFree d with
        rollback := { d.rollback with hand := some { h with step := step } }
        array := { d.array with outstanding := none, rollbackReq := some access } }
    let wedged (t : Device) (restored : Nat) (code : RespCode) : Prop :=
      t.rollback = ⟨others, none⟩ ∧ t.array = { d.array with outstanding := none } ∧ t.journal = d.journal ∧
      t.scope = d.scope.set j.port { s with state := .wedged, running := false, resetNoted := false } ∧
      (j.kind = .all → t.host = d.host ∧
        t.link = toldOf d.link (.force j.port) .media (forceCounts s.stack.length restored)) ∧
      (∀ l k e, j.kind = .level l → host.markIndex = some k → host.queue[k]? = some e →
        t.link = d.link ∧ t.host = d.host.set j.port (answered host k e code 0#512))
    let fails (o : Host.Outcome State Fault Refusal) : Prop :=
      Nexts o fun t => wedged t.dev j.restored .media ∧ t.dev.claims = d.claims ∧
        t.dev.alerts.latches &&& 0x040#10 = 0x040#10
    d.array.outstanding = some o → o.requester = .rollback → d.rollback = ⟨j :: others, some h⟩ →
    (∀ x ∈ others, x.port ≠ j.port) → j.phase = .restoring →
    (h.step = .readHeader → exec (.arrayAnswer o.number true data) ⟨q, d⟩ =
      .next ⟨q, reads (.readBody data) (.readLine (d.journal.base + (h.position + 2) / 2))⟩) ∧
    (∀ first, h.step = .readBody first →
      let header := decodeHeader (headerCell h.position first)
      let body := imageBody h.position first data
      let good := header.kind = 2#8 ∧ header.length = 3#8 ∧ header.target.toNat = h.line ∧
        header.check = recordCheck header (some body)
      (good → exec (.arrayAnswer o.number true data) ⟨q, d⟩ = .next ⟨q, reads .write (.writeFull h.line body)⟩) ∧
      (¬good → fails (exec (.arrayAnswer o.number true data) ⟨q, d⟩))) ∧
    fails (exec (.arrayAnswer o.number false data) ⟨q, d⟩) ∧ fails (exec .arrayResponseTimeout ⟨q, d⟩) ∧
    (h.step = .write → ∀ c, d.claims.slots[h.slot] = some c →
      let slots : Vector (Option Claim) 256 := d.claims.slots.set h.slot
        (match j.kind with
          | .all => none
          | .level l =>
            if putImage c.images l none = ⟨none, none, none, none⟩ then none
            else some { c with images := putImage c.images l none })
      let counted : Job := { j with restored := j.restored + 1, cursor := h.slot.val + 1 }
      let wanted (x : Claim) : Prop := x.port = j.port ∧
        (match j.kind with
          | .level l => imageAt x.images l ≠ none
          | .all => x.images ≠ ⟨none, none, none, none⟩)
      let image (x : Claim) : Option Nat := match j.kind with
        | .level l => imageAt x.images l
        | .all => (x.images.l1.or x.images.l2).or (x.images.l3.or x.images.l4)
      let level := match j.kind with
        | .level l => l
        | .all => s.stack.length
      let written := exec (.arrayAnswer o.number true data) ⟨q, d⟩
      let free : Device := { portFree d with claims := ⟨slots⟩ }
      (d.part = .stopping → Nexts written fun t =>
        t.dev.claims.slots = slots ∧ t.dev.rollback = ⟨others, none⟩ ∧ t.dev.scope = d.scope ∧ t.dev.link = d.link ∧
        t.dev.journal = d.journal ∧ (j.kind = .all → t.dev.host = d.host) ∧
        ∀ l k e, j.kind = .level l → host.markIndex = some k → host.queue[k]? = some e →
          t.dev.host = d.host.set j.port (answered host k e .halted 0#512)) ∧
      (d.part ≠ .stopping → d.journal.faulted = true → Nexts written fun t =>
        t.dev.claims.slots = slots ∧ wedged t.dev (j.restored + 1) .journalFault) ∧
      (d.part ≠ .stopping → d.journal.faulted = false →
        (∀ (next : Fin 256) x cell, h.slot < next → slots[next] = some x → wanted x → image x = some cell →
          (∀ k : Fin 256, h.slot < k → k < next → ∀ y, slots[k] = some y → ¬wanted y) →
          written = .next ⟨q, { free with
            rollback := ⟨counted :: others, some ⟨next, x.line, cell, .readHeader⟩⟩
            array := { d.array with
              outstanding := none, rollbackReq := some (.readLine (d.journal.base + cell / 2)) } }⟩) ∧
        ((∀ k : Fin 256, h.slot < k → ∀ y, slots[k] = some y → ¬wanted y) → 1 ≤ level → level ≤ s.stack.length →
          ∃ e, s.stack[s.stack.length - level]? = some e ∧ written = .next ⟨q, { free with
            rollback := ⟨{ counted with phase := .closing } :: others, none⟩
            journal := { d.journal with
              queue := d.journal.queue ++ [⟨.rollback, j.port, level, e.serial, .close j.cause⟩] } }⟩)))

/-! ## Scope unit -/

/-- A running timer at or past the limit of its scope (R17) expires in RUNNING: AGEDn is latched; with action ALERT none
follows for the scope, with action ABANDON a forced abandon TIMER is taken (R16, R18); otherwise nothing happens. The wait of a pending
abandon ends when no request of the port is begun, in RUNNING by the first case of R19 that applies; a RESETTING port at
depth 0 stays so while its line or a job holds it (R14). A FORCE ABANDON that waits on it is answered MEDIA with the depth
and no line for a WEDGED port or a FAULTED journal, DONE with two zeros at depth 0, and waits on where a job is queued
(R21). Outside RUNNING the pending abandon is cleared, the port keeping its state, and a waiting FORCE ABANDON is answered
at depth 0 alone (R22); that a RESETTING port whose line is released stays so then is log entry 9. -/
def Obligations.ForcedAbandonsAreTakenAndSettled : Prop :=
  ∀ (q : List Instr) (p : Port) (d : Device),
    let s := d.scope.get p
    let due := d.part = .running ∧ s.running = true ∧ s.scopeLimit ≠ 0#16 ∧ s.scopeLimit.toNat ≤ s.age ∧
      s.expired = false
    let aged (s : ScopePort) : Device := { d with
      scope := d.scope.set p s
      alerts := { d.alerts with latches := d.alerts.latches |||
        (match p with
          | .p0 => 0x001#10
          | .p1 => 0x002#10) } }
    let idle := ∀ e ∈ (d.host.get p).queue, isBegun e = false
    let c := d.counters.port.get p
    let counters := { d.counters with
      port := d.counters.port.set p { c with forcedAbandons := counted c.forcedAbandons } }
    let ends (t : Device) : Prop := exec (.forcedAbandonWaitEnd p) ⟨q, d⟩ = .next ⟨q, t⟩
    (due → s.scopeAction = .alert → exec (.scopeAgeExpiry p) ⟨q, d⟩ = .next ⟨q, aged { s with expired := true }⟩) ∧
    (due → s.scopeAction = .abandon → s.state ≠ .wedged → s.pendingAbandon = none →
      (∀ j ∈ d.rollback.jobs, j.port = p → j.kind ≠ .all) →
      exec (.scopeAgeExpiry p) ⟨q, d⟩ =
        .next ⟨q, aged { s with pendingAbandon := some .timer, running := false }⟩) ∧
    (¬due → exec (.scopeAgeExpiry p) ⟨q, d⟩ = .next ⟨q, d⟩) ∧
    (s.pendingAbandon = none → ends d) ∧
    let told (code : ReplyCode) (scopes : Nat) : LinkController := toldOf d.link (.force p) code (forceCounts scopes 0)
    let freed := (d.host.get p).hrst = false ∧ ∀ j ∈ d.rollback.jobs, j.port ≠ p
    ∀ cause, s.pendingAbandon = some cause →
      (¬idle → ends d) ∧
      (idle → d.part = .running → s.state = .wedged →
        ends { d with
          scope := d.scope.set p { s with pendingAbandon := none }
          counters := counters
          link := told .media s.stack.length }) ∧
      (idle → d.part = .running → s.state = .active ∨ s.state = .unwinding → s.stack = [] →
        ends { d with
          scope := d.scope.set p { s with pendingAbandon := none, state := .active }
          link := told .done 0 }) ∧
      (idle → d.part = .running → s.state = .resetting → s.stack = [] → freed →
        ends { d with
          scope := d.scope.set p { s with pendingAbandon := none, state := .active, resetNoted := false }
          link := told .done 0 }) ∧
      (idle → d.part = .running → s.state = .resetting → s.stack = [] → ¬freed →
        ends { d with
          scope := d.scope.set p { s with pendingAbandon := none }
          link := told .done 0 }) ∧
      (idle → d.part = .running → s.state ≠ .wedged → s.stack ≠ [] → d.journal.faulted = true →
        ends { d with
          scope := d.scope.set p { s with
            pendingAbandon := none, state := .wedged, running := false, resetNoted := false }
          counters := counters
          link := told .media s.stack.length
          alerts := { d.alerts with latches := d.alerts.latches |||
            (match p with
              | .p0 => 0x010#10
              | .p1 => 0x020#10) } }) ∧
      (idle → d.part = .running → s.state ≠ .wedged → s.stack ≠ [] → d.journal.faulted = false →
        ends { d with
          scope := d.scope.set p { s with
            pendingAbandon := none, state := if s.state = .resetting then .resetting else .unwinding }
          counters := counters
          rollback := { d.rollback with jobs := d.rollback.jobs ++
            [⟨p, .all,
              match cause with
                | .timer => .abandonedTimer
                | .forced => .abandonedForced
                | .portReset => .abandonedPortReset, 0, 0, .waiting, 0⟩] } }) ∧
      (idle → d.part ≠ .running → ends { d with
        scope := d.scope.set p { s with pendingAbandon := none }
        link := if s.stack = [] then told .done 0 else d.link })

/-! ## Anchor unit -/

/-- An update begins when one is requested, none is in progress, no FORMAT JOURNAL is in hand and the part is neither
STOPPING nor SAFE (R115, R120): the target is the copy that is not the newest valid one, or A, with the next generation
or 1 (R114); the values are those in force at this moment (R116); the first line is asked for. -/
def Obligations.AnchorUpdateBegins : Prop :=
  ∀ (q : List Instr) (d : Device) (purpose : Purpose),
    let a := d.anchor
    let cover (r : UpdateReq) : UpdateReq := if r = .none then .none else .covered
    let target : Copy := if a.newest = some .a then .b else .a
    let generation : BitVec 32 := if a.newest = none then 1#32 else a.generation + 1#32
    let values : Setup :=
      { epoch := d.journal.epoch, timeout := d.array.timeout, defaultMode := d.regions.defaultMode,
        arrayLines := d.regions.lineCount.getD 0, base := d.journal.base, lines := d.journal.lines,
        tail := d.journal.liveTail.position, tailSeq := d.journal.liveTail.sequence,
        lowWater := d.journal.lowWater, limit := ⟨d.scope.p0.limit, d.scope.p1.limit⟩,
        action := ⟨d.scope.p0.action, d.scope.p1.action⟩, regions := d.regions.entries }
    let line : Access := .writeFull (if target = .a then 0 else 2) (copyLine (encodeCopy generation values) false)
    let requested := a.writerReq = .pending ∨ a.linkReq = .pending ∨ a.recoveryReq = .pending
    (a.update = none → a.format = none → d.part ≠ .stopping → d.part ≠ .safe → requested →
      purpose = (if d.part = .recovering then .recovery else .running) →
      exec .anchorUpdateBegin ⟨q, d⟩ = .next ⟨q, { d with
        anchor := { a with
          writerReq := cover a.writerReq, linkReq := cover a.linkReq, recoveryReq := cover a.recoveryReq
          update := some ⟨target, generation, values, purpose, false⟩ }
        array := { d.array with anchorReq := some line } }⟩) ∧
    (a.update ≠ none ∨ a.format ≠ none ∨ d.part = .stopping ∨ d.part = .safe ∨ ¬requested →
      exec .anchorUpdateBegin ⟨q, d⟩ = .next ⟨q, d⟩)

/-- The lines of an update made in RUNNING are answered: after the first the second is asked for (R116); after the second
the copy is the newest valid one, the anchored setup, tail and tail sequence take its values, ANCHOR_WRITES advances and a
covered management command is answered DONE (R117, R119); on an error or a timeout the copy is recorded invalid, the journal
is FAULTED with JFAULT and MEDIA latched, newest copy, generation, setup and tail stay, and a covered command is answered
MEDIA (R118, R119); a FORCE ABANDON, whose CLOSE record may be among the items refused, apart. That the append in progress
goes on is log entry 17. -/
def Obligations.AnchorUpdateEnds : Prop :=
  ∀ (q : List Instr) (d : Device) (o : Outstanding) (u : Update) (data : LineData),
    let a := d.anchor
    let line : Access :=
      .writeFull (if u.target = .a then 1 else 3) (copyLine (encodeCopy u.generation u.values) true)
    let reply (code : ReplyCode) (slot : Slot) : Prop :=
      slot = if a.linkReq = .covered ∧ d.link.slot = .working .update then .ready code [] else d.link.slot
    d.array.outstanding = some o → o.requester = .anchor → a.cold = none → a.update = some u → u.purpose = .running →
    a.recoveryReq ≠ .covered →
    (u.second = false → exec (.arrayAnswer o.number true data) ⟨q, d⟩ = .next ⟨q, { portFree d with
      anchor := { a with update := some { u with second := true } }
      array := { d.array with outstanding := none, anchorReq := some line } }⟩) ∧
    (u.second = true → Nexts (exec (.arrayAnswer o.number true data) ⟨q, d⟩) fun t =>
      t.dev.anchor.newest = some u.target ∧ t.dev.anchor.generation = u.generation ∧
      t.dev.anchor.otherValid = a.newest.isSome ∧ t.dev.anchor.setup = some u.values ∧ t.dev.anchor.update = none ∧
      t.dev.journal.tail = u.values.tail ∧ t.dev.journal.tailSeq = u.values.tailSeq ∧
      t.dev.journal.head = d.journal.head ∧ t.dev.journal.queue = d.journal.queue ∧
      t.dev.counters = { d.counters with anchorWrites := counted d.counters.anchorWrites } ∧
      reply .done t.dev.link.slot ∧ t.dev.part = d.part ∧ t.dev.host = d.host ∧ t.dev.scope = d.scope ∧
      t.dev.claims = d.claims ∧ t.dev.regions = d.regions) ∧
    ∀ c, c = .arrayAnswer o.number false data ∨ c = .arrayResponseTimeout → Nexts (exec c ⟨q, d⟩) fun t =>
      t.dev.anchor.newest = a.newest ∧ t.dev.anchor.generation = a.generation ∧ t.dev.anchor.otherValid = false ∧
      t.dev.anchor.setup = a.setup ∧ t.dev.anchor.update = none ∧
      t.dev.journal = { d.journal with faulted := true, queue := [], held := none } ∧
      t.dev.alerts.latches &&& 0x048#10 = 0x048#10 ∧
      ((∀ p, d.link.slot ≠ .working (.force p)) → reply .media t.dev.link.slot) ∧
      t.dev.counters = { d.counters with
        arrayErrors := counted d.counters.arrayErrors
        arrayTimeouts :=
          if c = .arrayResponseTimeout then counted d.counters.arrayTimeouts else d.counters.arrayTimeouts }

/-- An accepted FORMAT JOURNAL begins its copy once no update is in progress: pending requests are discarded, the geometry
and low-water mark are the command's, the tail is 0, the epoch follows the anchored one and the setup is the anchored
one, or that of reset with epoch 1 (R121, R122). When its first line is answered the second is asked for; when that is, the
copy is the newest valid one, the journal is new, NORMAL and empty, the setup is the copy's, the serial counters are 0, the
part is RUNNING or stays STOPPING, and the command is answered DONE (R122, R142). When either line fails or times out, the
copy is recorded invalid, no value is taken and the command is answered MEDIA; MEDIA is latched, accepted in RUNNING the
journal becomes FAULTED with JFAULT latched (R122), and while the journal is FAULTED, as in FAILED, JFAULT is latched again
(R61; log entry 37). -/
def Obligations.FormatWritesANewJournal : Prop :=
  ∀ (q : List Instr) (d : Device),
    let a := d.anchor
    (∀ f : Format, a.format = some f → a.update = none → d.part ≠ .stopping → d.part ≠ .safe →
      let target : Copy := if a.newest = some .a then .b else .a
      let generation : BitVec 32 := if a.newest = none then 1#32 else a.generation + 1#32
      let values : Setup := match a.setup with
        | some v => { v with
            epoch := if v.epoch = 0xFFFF#16 then 1#16 else v.epoch + 1#16
            arrayLines := f.arrayLines, base := f.base, lines := f.lines, tail := 0, tailSeq := 0#32
            lowWater := f.lowWater }
        | none =>
          { epoch := 1#16, timeout := 50#8, defaultMode := .pass, arrayLines := f.arrayLines, base := f.base,
            lines := f.lines, tail := 0, tailSeq := 0#32, lowWater := f.lowWater, limit := ⟨0#16, 0#16⟩,
            action := ⟨.alert, .alert⟩, regions := Vector.replicate 8 ⟨0, 0, .pass, false, false⟩ }
      let line : Access := .writeFull (if target = .a then 0 else 2) (copyLine (encodeCopy generation values) false)
      exec .formatCopyWrite ⟨q, d⟩ = .next ⟨q, { d with
        anchor := { a with
          writerReq := .none, linkReq := .none, recoveryReq := .none
          update := some ⟨target, generation, values, .format f.acceptedIn, false⟩ }
        array := { d.array with anchorReq := some line } }⟩) ∧
    (a.format = none ∨ a.update ≠ none ∨ d.part = .stopping ∨ d.part = .safe →
      exec .formatCopyWrite ⟨q, d⟩ = .next ⟨q, d⟩) ∧
    ∀ (o : Outstanding) (u : Update) (state : PartState) (data : LineData),
      let v := u.values
      d.array.outstanding = some o → o.requester = .anchor → a.cold = none → a.update = some u →
      u.purpose = .format state → d.link.slot = .working .format →
      (u.second = false → exec (.arrayAnswer o.number true data) ⟨q, d⟩ = .next ⟨q, { d with
        anchor := { a with update := some { u with second := true } }
        array := { d.array with
          outstanding := none
          anchorReq := some (.writeFull (if u.target = .a then 1 else 3)
            (copyLine (encodeCopy u.generation u.values) true)) } }⟩) ∧
      (u.second = true → exec (.arrayAnswer o.number true data) ⟨q, d⟩ = .next ⟨q, { d with
        part := if d.part = .stopping then .stopping else .running
        anchor := { a with
          newest := some u.target, generation := u.generation, otherValid := a.newest.isSome, setup := some v,
          update := none, format := none }
        journal :=
          { faulted := false, base := v.base, lines := v.lines, lowWater := v.lowWater, epoch := v.epoch, tail := 0,
            tailSeq := 0#32, head := 0, nextSeq := 0#32, treeStart := ⟨none, none⟩, last := ⟨none, none⟩, queue := [],
            append := none, held := none }
        regions := ⟨v.regions, v.defaultMode, some v.arrayLines⟩
        scope := ⟨{ d.scope.p0 with limit := v.limit.p0, action := v.action.p0, serialCounter := 0#16 },
          { d.scope.p1 with limit := v.limit.p1, action := v.action.p1, serialCounter := 0#16 }⟩
        array := { d.array with outstanding := none, timeout := v.timeout }
        counters := { d.counters with anchorWrites := counted d.counters.anchorWrites }
        link := toldOf d.link .format .done [] }⟩) ∧
      ∀ c, c = .arrayAnswer o.number false data ∨ c = .arrayResponseTimeout →
        (state = .running → d.journal.queue = []) →
        exec c ⟨q, d⟩ = .next ⟨q, { d with
          anchor := { a with update := none, otherValid := false, format := none }
          journal := if state = .running then { d.journal with faulted := true, queue := [], held := none } else d.journal
          array := { d.array with outstanding := none }
          alerts := { d.alerts with
            latches := d.alerts.latches |||
              (if state = .running ∨ d.journal.faulted = true then 0x048#10 else 0x040#10) }
          counters := { d.counters with
            arrayErrors := counted d.counters.arrayErrors
            arrayTimeouts :=
              if c = .arrayResponseTimeout then counted d.counters.arrayTimeouts else d.counters.arrayTimeouts }
          link := toldOf d.link .format .media [] }⟩

/-- A copy is valid when its format marker and its check are right, every field lies within its range (Table 7-1, the lines of
regions apart) and the journal lies within the array, and is not used otherwise (R113; bits 4 to 7 of an attribute byte are
log entry 11). In COLD each of the first three reads answered has the next line asked for; in STOPPING no line is asked for
and nothing is selected or loaded (R126, R142). The last of the four reads of COLD is answered: of two valid copies B is
chosen where its generation is newer modulo 2^32, else A, of one valid copy that one; a copy with a read in error is invalid
(R113, R126). With no valid copy the part is
UNFORMATTED; with one and no read error its values are loaded and recovery starts at its tail; with one and a read error the
start fails with cause ANCHOR_READ (R113, R126, R135). A read that fails or times out latches MEDIA and sets the
anchor-error flag (R126). -/
def Obligations.AnchorSelectionEndsCold : Prop :=
  (∀ (ga gb : BitVec 32) (va vb : Setup),
    let newer := 1 ≤ (gb - ga).toNat ∧ (gb - ga).toNat ≤ 2 ^ 31 - 1
    selectCopy (some (ga, va)) (some (gb, vb)) = (if newer then some (.b, gb, vb, true) else some (.a, ga, va, true)) ∧
    selectCopy (some (ga, va)) none = some (.a, ga, va, false) ∧
    selectCopy none (some (gb, vb)) = some (.b, gb, vb, false) ∧ selectCopy none none = none) ∧
  (∀ x y : LineData, coldCopy (some x) (some y) = decodeCopy x y ∧ coldCopy none (some y) = none ∧
    coldCopy (some x) none = none ∧ coldCopy none none = none) ∧
  (∀ x y : LineData,
    let c : BitVec 1024 := y ++ x
    let word (byte : Nat) : Nat := (c.extractLsb' (8 * byte) 32).toNat
    let valid := c.extractLsb' 0 32 = 0x4B574A40#32 ∧ c.extractLsb' 992 32 = crc32 (bytesOf 124 c) ∧
      c.extractLsb' 64 16 ≠ 0#16 ∧ c.extractLsb' 80 8 ≠ 0#8 ∧ (c.extractLsb' 88 8).toNat ≤ 2 ∧
      1 ≤ word 12 ∧ word 12 ≤ 2 ^ 26 ∧ 4 ≤ word 16 ∧ 256 ≤ word 20 ∧ word 20 ≤ 262144 ∧ word 24 < 2 * word 20 ∧
      word 32 ≤ 2 * word 20 - 9 ∧ (c.extractLsb' 304 8).toNat ≤ 1 ∧ (c.extractLsb' 336 8).toNat ≤ 1 ∧
      (∀ i : Fin 8, c.extractLsb' (8 * (44 + 9 * i.val + 8)) 2 ≠ 3#2) ∧ word 16 + word 20 ≤ word 12
    (valid → ∃ v, decodeCopy x y = some (c.extractLsb' 32 32, v)) ∧ (¬valid → decodeCopy x y = none)) ∧
  (∀ (q : List Instr) (d : Device) (o : Outstanding) (reads : List (Option LineData)) (read : Option LineData)
      (data : LineData) (c : Instr),
    let heard : Device := match read with
      | some _ => portFree d
      | none => { portFree d with
          recovery := { d.recovery with anchorError := true }
          alerts := { d.alerts with latches := d.alerts.latches ||| 0x040#10 }
          counters := { d.counters with
            arrayErrors := counted d.counters.arrayErrors
            arrayTimeouts :=
              if c = .arrayResponseTimeout then counted d.counters.arrayTimeouts else d.counters.arrayTimeouts } }
    d.array.outstanding = some o → o.requester = .anchor → d.anchor.cold = some reads →
    (c = .arrayAnswer o.number true data ∧ read = some data) ∨
      ((c = .arrayAnswer o.number false data ∨ c = .arrayResponseTimeout) ∧ read = none) →
    (d.part = .cold → reads.length < 3 → exec c ⟨q, d⟩ = .next ⟨q, { heard with
      anchor := { d.anchor with cold := some (reads ++ [read]) }
      array := { d.array with outstanding := none, anchorReq := some (.readLine (reads.length + 1)) } }⟩) ∧
    (d.part = .stopping →
      exec c ⟨q, d⟩ = .next ⟨q, { heard with anchor := { d.anchor with cold := none } }⟩)) ∧
  ∀ (q : List Instr) (d : Device) (o : Outstanding) (r0 r1 r2 r3 : Option LineData) (data : LineData) (c : Instr),
    let newest := selectCopy (coldCopy r0 r1) (coldCopy r2 r3)
    d.array.outstanding = some o → o.requester = .anchor → d.anchor.cold = some [r0, r1, r2] → d.part = .cold →
    (c = .arrayAnswer o.number true data ∧ r3 = some data) ∨
      ((c = .arrayAnswer o.number false data ∨ c = .arrayResponseTimeout) ∧ r3 = none) →
    Nexts (exec c ⟨q, d⟩) fun t =>
      t.dev.anchor.cold = none ∧ t.dev.array.outstanding = none ∧
      (r3 = none → t.dev.recovery.anchorError = true ∧ t.dev.alerts.latches &&& 0x040#10 = 0x040#10 ∧
        t.dev.counters.arrayErrors = counted d.counters.arrayErrors) ∧
      (newest = none → t.dev.part = .unformatted ∧ t.dev.array.recoveryReq = d.array.recoveryReq ∧
        t.dev.scope.p0.limit = 0#16 ∧ t.dev.scope.p1.limit = 0#16 ∧ t.dev.journal = d.journal) ∧
      (∀ copy g v other, newest = some (copy, g, v, other) →
        t.dev.anchor.newest = some copy ∧ t.dev.anchor.generation = g ∧ t.dev.anchor.otherValid = other ∧
        t.dev.anchor.setup = some v ∧ t.dev.regions = ⟨v.regions, v.defaultMode, some v.arrayLines⟩ ∧
        t.dev.journal.base = v.base ∧ t.dev.journal.lines = v.lines ∧ t.dev.journal.epoch = v.epoch ∧
        t.dev.journal.tail = v.tail ∧ t.dev.journal.tailSeq = v.tailSeq ∧ t.dev.journal.lowWater = v.lowWater ∧
        t.dev.scope.p0.limit = v.limit.p0 ∧ t.dev.scope.p1.action = v.action.p1 ∧ t.dev.array.timeout = v.timeout ∧
        (r0 ≠ none → r1 ≠ none → r2 ≠ none → r3 ≠ none →
          t.dev.part = .recovering ∧ t.dev.recovery.phase = .scanHeader ∧ t.dev.recovery.pos = v.tail ∧
          t.dev.recovery.expected = v.tailSeq ∧
          t.dev.array.recoveryReq = some (.readLine (v.base + v.tail / 2))) ∧
        (r0 = none ∨ r1 = none ∨ r2 = none ∨ r3 = none →
          t.dev.part = .failed ∧ t.dev.recovery.result = .failed ∧ t.dev.recovery.cause = some .anchorRead ∧
          t.dev.journal.faulted = true ∧ t.dev.alerts.latches &&& 0x048#10 = 0x048#10))

/-! ## Recovery, SAFE -/

/-- The forward scan. A header line: an IMAGE that passes conditions 1, 2 and 3 of R129 has its second line asked for; any
other record is judged, as an IMAGE is with its body. A record that passes every condition and is a PAD, or matches or is
ignored by Table 8-4, is taken into the scan and the next line asked for (R129, R131); one that does not match ends the scan
with the MISMATCH flag (R132), one that is not accepted ends it without (R129). At the end the journal writer takes head,
next sequence, tree starts and last records (R130); then the walk of the first port with an open tree begins at its last
record (R133), or, none being open, the final update is asked for where the head differs from the anchored tail and recovery
is complete where it does not (R134). Table 8-4 is matchRecord (R131). That an IMAGE's second line is read only after
conditions 1, 2 and 3 is R129's, and that the body serves the check alone log entry 28. -/
def Obligations.ScanRecordsAreMatched : Prop :=
  (∀ (s : ScanPort) (position : Nat) (h : Header),
    let level := h.level.toNat
    let prior := if h.prior = 0xFFFFFFFF#32 then none else some h.prior.toNat
    let pushed : ScanPort :=
      { started := true, stack := ⟨level, h.serial, position, h.sequence⟩ :: s.stack, last := some position,
        lastOpen := some h.serial }
    (h.kind = 1#8 → s.started = false → s.stack = [] →
      matchRecord s position h =
        some (if level = 1 ∧ prior = none then pushed else { s with lastOpen := some h.serial })) ∧
    (h.kind = 2#8 ∨ h.kind = 3#8 → s.started = false → matchRecord s position h = some s) ∧
    (h.kind = 1#8 → s.started = true →
      matchRecord s position h =
        if level = s.stack.length + 1 ∧ (level = 1 → prior = none) ∧ (level ≠ 1 → prior = s.last) then some pushed
        else none) ∧
    (h.kind = 2#8 → s.started = true → ∀ top below, s.stack = top :: below →
      matchRecord s position h =
        if level = s.stack.length ∧ h.serial = top.serial ∧ prior = s.last then some { s with last := some position }
        else none) ∧
    (h.kind = 3#8 → s.started = true → ∀ top below, s.stack = top :: below →
      matchRecord s position h =
        if level = s.stack.length ∧ h.serial = top.serial ∧ prior = s.last ∧ (h.code = 2#8 → level = 1) ∧
          (h.code = 1#8 → 2 ≤ level)
        then some { s with stack := below, last := if below = [] then none else some position } else none) ∧
    (h.kind = 2#8 ∨ h.kind = 3#8 → s.started = true → s.stack = [] → matchRecord s position h = none)) ∧
  ∀ (q : List Instr) (d : Device) (o : Outstanding) (data : LineData),
    let r := d.recovery
    let answers (t : Device) : Prop := exec (.arrayAnswer o.number true data) ⟨q, d⟩ = .next ⟨q, t⟩
    let ends (mismatch : Bool) : Prop :=
      let e := scanEnded (portFree d) mismatch
      (r.ports.p0.stack ≠ [] → ∀ c, r.ports.p0.last = some c → answers (walksTo e .p0 c)) ∧
      (r.ports.p0.stack = [] → r.ports.p1.stack ≠ [] → ∀ c, r.ports.p1.last = some c → answers (walksTo e .p1 c)) ∧
      (r.ports.p0.stack = [] → r.ports.p1.stack = [] →
        (r.pos ≠ d.journal.tail → answers (asksFinalUpdate (walked e))) ∧
        (r.pos = d.journal.tail → answers (recovered (walked e))))
    let judged (h : Header) (body : Option LineData) : Prop :=
      (¬Accepted d h body → ends r.mismatch) ∧
      (Accepted d h body → h.kind = 4#8 → answers (scannedOn (portFree d) h r.ports)) ∧
      (Accepted d h body → h.kind ≠ 4#8 → ∀ p : Port, h.port.toNat = p.num →
        (∀ s, matchRecord (r.ports.get p) r.pos h = some s →
          answers (scannedOn (portFree d) h (r.ports.set p s))) ∧
        (matchRecord (r.ports.get p) r.pos h = none → ends true))
    d.array.outstanding = some o → o.requester = .recovery → d.part = .recovering →
    (r.phase = .scanHeader →
      let h := decodeHeader (headerCell r.pos data)
      let fits := HeaderFits d r.pos h ∧ h.sequence = r.expected
      (h.kind ≠ 2#8 → judged h none) ∧
      (h.kind = 2#8 → fits →
        answers (engineAsks (portFree d) (.scanBody data) (.readLine (d.journal.base + (r.pos + 2) / 2)))) ∧
      (h.kind = 2#8 → ¬fits → ends r.mismatch)) ∧
    (∀ first, r.phase = .scanBody first →
      let h := decodeHeader (headerCell r.pos first)
      h.kind = 2#8 → HeaderFits d r.pos h → h.sequence = r.expected → judged h (some (imageBody r.pos first data)))

/-- The walk, the closing records and the ends of recovery. A record on a port's chain that fails conditions 1, 2, 4 or 5 of
R129 or carries the other port ends recovery with cause CHAIN_CHECK; the body of an IMAGE is written to its target line
and counted (the count made with the request: log entry 13); at a record without a prior the walk ends where it is the tree
start, and fails with CHAIN_CHECK elsewhere (R133). Then each level of the scan stacks is closed, port 0 first, innermost
first, the tree start cleared after the level-1 record, and the final update asked for where the head differs from the
anchored tail (R134); in STOPPING no further record is handed over (R142), and no update asked for (log entry 38). An access
of the engine that fails ends recovery with the cause of Table 8-5: the journal is FAULTED, JFAULT and MEDIA are latched,
the result is FAILED and the part FAILED, or stays STOPPING (R135, R142); a failed final update has cause ANCHOR_WRITE (R118),
and so has any other begun in RECOVERING, a held closing record staying in the queue (log entry 43).
The final update being durable, the serial counters follow the last OPEN serials, the result is CLEAN or ROLLED_BACK,
RECOVERED is latched and the part is RUNNING (R134). -/
def Obligations.RecoveryFailsOrEndsInRunning : Prop :=
  ∀ (q : List Instr) (d : Device) (o : Outstanding) (data : LineData), d.array.outstanding = some o →
    (∀ cause : FailCause,
      let failed (timeouts : BitVec 32) : Device := { portFree d with
        part := if d.part = .stopping then .stopping else .failed
        journal := { d.journal with faulted := true }
        recovery := { d.recovery with phase := .idle, result := .failed, cause := some cause }
        alerts := { d.alerts with latches := (d.alerts.latches ||| 0x008#10) ||| 0x040#10 }
        counters := { d.counters with arrayErrors := counted d.counters.arrayErrors, arrayTimeouts := timeouts } }
      o.requester = .recovery →
      (match d.recovery.phase with
        | .scanHeader => cause = .scanRead
        | .scanBody _ => cause = .scanRead
        | .walkHeader _ _ => cause = .chainRead
        | .walkBody _ _ _ => cause = .chainRead
        | .walkWrite _ _ _ => cause = .imageWrite
        | _ => False) →
      exec (.arrayAnswer o.number false data) ⟨q, d⟩ = .next ⟨q, failed d.counters.arrayTimeouts⟩ ∧
      exec .arrayResponseTimeout ⟨q, d⟩ = .next ⟨q, failed (counted d.counters.arrayTimeouts)⟩) ∧
    (∀ u : Update, o.requester = .anchor → d.anchor.cold = none → d.anchor.update = some u → u.purpose = .recovery →
      u.second = true → d.anchor.recoveryReq = .covered → d.part = .recovering →
      Nexts (exec (.arrayAnswer o.number true data) ⟨q, d⟩) fun t =>
        t.dev.part = .running ∧ t.dev.recovery.phase = .idle ∧
        t.dev.recovery.result = (if d.recovery.scopes = 0 then .clean else .rolledBack) ∧
        (∀ p, (t.dev.scope.get p).serialCounter =
          (match (d.recovery.ports.get p).lastOpen with
            | some x => x + 1#16
            | none => 0#16)) ∧
        t.dev.alerts.latches = d.alerts.latches ||| 0x100#10 ∧
        t.dev.journal.tail = u.values.tail ∧ t.dev.journal.tailSeq = u.values.tailSeq ∧
        t.dev.claims = d.claims ∧ t.dev.host = d.host) ∧
    (∀ u : Update, o.requester = .anchor → d.anchor.cold = none → d.anchor.update = some u → u.purpose = .recovery →
      d.part = .recovering → Nexts (exec (.arrayAnswer o.number false data) ⟨q, d⟩) fun t =>
        t.dev.part = .failed ∧ t.dev.recovery.result = .failed ∧ t.dev.recovery.cause = some .anchorWrite ∧
        t.dev.journal = { d.journal with faulted := true } ∧ t.dev.anchor.update = none ∧
        t.dev.anchor.otherValid = false ∧ t.dev.anchor.newest = d.anchor.newest ∧
        t.dev.alerts.latches &&& 0x048#10 = 0x048#10) ∧
    (o.requester = .recovery → d.part = .recovering →
      let r := d.recovery
      let answers (t : Device) : Prop := exec (.arrayAnswer o.number true data) ⟨q, d⟩ = .next ⟨q, t⟩
      let walkEnds : Prop :=
        (∀ e below, r.ports.p0.stack = e :: below → answers (closesLevel (walked (portFree d)) .p0 e)) ∧
        (∀ e below, r.ports.p0.stack = [] → r.ports.p1.stack = e :: below →
          answers (closesLevel (walked (portFree d)) .p1 e))
      let fails : Prop := answers (recoveryFailed (portFree d) .chainCheck)
      let goesOn (p : Port) (c : Nat) (prior : Option Nat) : Prop :=
        (∀ c', prior = some c' → answers (walksTo (portFree d) p c')) ∧
        (prior = none → ∀ t, d.journal.treeStart.get p = some t →
          (t.position = c → p = .p0 → r.ports.p1.stack ≠ [] → ∀ c', r.ports.p1.last = some c' →
            answers (walksTo (portFree d) .p1 c')) ∧
          (t.position = c → p = .p1 ∨ r.ports.p1.stack = [] → walkEnds) ∧
          (t.position ≠ c → fails))
      let priorCell (h : Header) : Option Nat := if h.prior = 0xFFFFFFFF#32 then none else some h.prior.toNat
      ∀ (p : Port) (c : Nat),
        (r.phase = .walkHeader p c →
          let h := decodeHeader (headerCell c data)
          (h.kind = 2#8 → HeaderFits d c h →
            answers (engineAsks (portFree d) (.walkBody p c data) (.readLine (d.journal.base + (c + 2) / 2)))) ∧
          (h.kind = 2#8 → ¬HeaderFits d c h → fails) ∧
          (h.kind ≠ 2#8 → OnChain d p c h none → goesOn p c (priorCell h)) ∧
          (h.kind ≠ 2#8 → ¬OnChain d p c h none → fails)) ∧
        (∀ first, r.phase = .walkBody p c first →
          let h := decodeHeader (headerCell c first)
          let body := imageBody c first data
          (OnChain d p c h (some body) → answers (engineAsks
            { portFree d with recovery := { r with images := r.images + 1 } } (.walkWrite p c (priorCell h))
            (.writeFull h.target.toNat body))) ∧
          (¬OnChain d p c h (some body) → fails)) ∧
        (∀ prior, r.phase = .walkWrite p c prior → goesOn p c prior)) ∧
    ∀ (p : Port) (a : Append), AppendEnds d o.number o a → a.item.source = .recovery → a.item.port = p → a.pad = 0 →
      a.item.record = .close .abandonedRecovery →
      let j := d.journal
      let ports := d.recovery.ports.set p
        { d.recovery.ports.get p with stack := (d.recovery.ports.get p).stack.tail }
      let closed : Device :=
        let d := lagChecked (jlowChecked { portFree d with
          journal := appendedTo j a (j.last.set p (some a.position)) j.treeStart })
        { d with
          recovery := { d.recovery with ports := ports }
          journal := { d.journal with
            treeStart := if a.item.level = 1 then j.treeStart.set p none else j.treeStart } }
      let answers (t : Device) : Prop := exec (.arrayAnswer o.number true data) ⟨q, d⟩ = .next ⟨q, t⟩
      (d.part = .stopping → answers { closed with recovery := { closed.recovery with phase := .idle } }) ∧
      (d.part = .recovering →
        (∀ e below, ports.p0.stack = e :: below → answers (closesLevel closed .p0 e)) ∧
        (∀ e below, ports.p0.stack = [] → ports.p1.stack = e :: below → answers (closesLevel closed .p1 e)) ∧
        (ports.p0.stack = [] → ports.p1.stack = [] →
          (closed.journal.head ≠ j.tail → answers (asksFinalUpdate closed)) ∧
          (closed.journal.head = j.tail → answers (recovered closed))))

/-- The part enters SAFE when the work in hand has ended, with SAFE latched (R144); otherwise it stays STOPPING. The waits of
pending forced abandons, being over, end in the same event (log entry 10): each is cleared, the port keeping its state, and
a FORCE ABANDON that waits on one is answered DONE with two zeros at depth 0 (R22). Any other command waiting in the slot is
answered WRONGSTATE (R143). -/
def Obligations.SafeIsEntered : Prop :=
  ∀ (q : List Instr) (d : Device),
    let ended := (∀ e ∈ d.host.p0.queue, isBegun e = false) ∧ (∀ e ∈ d.host.p1.queue, isBegun e = false) ∧
      d.journal.queue = [] ∧ d.journal.append = none ∧ d.anchor.update = none ∧
      (∀ j ∈ d.rollback.jobs, j.phase = .waiting) ∧ d.array.anchorReq = none ∧ d.array.recoveryReq = none ∧
      d.array.outstanding = none
    let safe (link : LinkController) : Device := { d with
      part := .safe
      scope := ⟨{ d.scope.p0 with pendingAbandon := none }, { d.scope.p1 with pendingAbandon := none }⟩
      alerts := { d.alerts with latches := d.alerts.latches ||| 0x200#10 }
      anchor := { d.anchor with format := none }
      link := link }
    let forcedDone (w : Work) : Prop :=
      ∃ p, w = .force p ∧ (d.scope.get p).pendingAbandon ≠ none ∧ (d.scope.get p).stack = []
    (d.part = .stopping → ended → SlotFree d → exec .safeEntry ⟨q, d⟩ = .next ⟨q, safe d.link⟩) ∧
    (d.part = .stopping → ended → ∀ w, d.link.slot = .working w →
      (¬forcedDone w → exec .safeEntry ⟨q, d⟩ = .next ⟨q, safe (toldOf d.link w .wrongState [])⟩) ∧
      (forcedDone w → exec .safeEntry ⟨q, d⟩ = .next ⟨q, safe (toldOf d.link w .done (forceCounts 0 0))⟩)) ∧
    (d.part ≠ .stopping ∨ ¬ended → exec .safeEntry ⟨q, d⟩ = .next ⟨q, d⟩)

/-- SAFE lasts until power-on or PRST: every other step keeps the part in SAFE with nothing asked of the array, and holds
the scope stacks, the claims, the journal, the anchor unit, the regions and the engines as they are (R144). -/
def Obligations.SafeHoldsItsState : Prop :=
  ∀ s : State, SafeInv s.dev → s.pending.head? ≠ some .powerOn → s.pending.head? ≠ some .prstAssert →
    Nexts (step s) fun t =>
      SafeInv t.dev ∧ (∀ p, (t.dev.scope.get p).stack = (s.dev.scope.get p).stack) ∧ t.dev.claims = s.dev.claims ∧
      t.dev.journal = s.dev.journal ∧ t.dev.anchor = s.dev.anchor ∧ t.dev.regions = s.dev.regions ∧
      t.dev.rollback = s.dev.rollback ∧ t.dev.recovery = s.dev.recovery ∧ t.dev.array = s.dev.array

/-! ## Management link -/

/-- A read command taken in any part state is answered DONE at once and changes nothing but the slot and the held exchange
number (R164, R166, R143): the replies are those of 13_formats.md; a port or region outside its range is answered
BADPARAM. The model's own fields of the link besides, the bytes driven and whether a work has ended, are log entry 6; that
a COLD held by PRST serves frames is log entry 19. -/
def Obligations.ReadCommandsReply : Prop :=
  ∀ (q : List Instr) (d : Device) (f : Frame) (a : Byte),
    let replied (c : Instr) (code : ReplyCode) (payload : List Byte) : Prop :=
      exec c ⟨q, d⟩ = .next ⟨q, tookFrame d f (.ready code payload)⟩
    FrameTaken d f →
    (f.payload = [] → replied (.getState f) .done d.statePayload ∧ replied (.getJournal f) .done d.journalPayload) ∧
    (f.payload = byteParam a →
      replied (.getClaims f) .done (d.claimsPayload a.toNat) ∧
      (a = 0#8 → replied (.getScope f) .done (d.scopePayload .p0)) ∧
      (a = 1#8 → replied (.getScope f) .done (d.scopePayload .p1)) ∧
      (1 < a.toNat → replied (.getScope f) .badParam []) ∧
      (∀ h : a.toNat < 8, replied (.getRegion f) .done (d.regionPayload d.regions.entries[a.toNat])) ∧
      (8 ≤ a.toNat → replied (.getRegion f) .badParam []))

/-- The replies of the read commands, byte for byte as 13_formats.md lays them out: GET STATE in 36 bytes (Table 13-8), GET
SCOPE in 48 (Table 13-9), GET JOURNAL in 56 (Table 13-10), zeros in UNFORMATTED (R64), GET REGION in 16, GET CLAIMS with 15
bytes for each of up to four slots and zeros up to a multiple of 4 (R174), coded items with the values of Table 13-7. An
update counts as requested until the one that covers it ends (log entry 12), a FORMAT JOURNAL too and its copy write as in
progress (log entry 41); without a job levels closed and lines restored are 0 (log entry 42); a free slot has zeros in its
line bytes too (log entry 21). -/
def Obligations.ReplyPayloadsAreLaidOut : Prop :=
  ∀ (d : Device) (p : Port) (r : Region) (n : Nat),
    let flag (b : Bool) : Byte := if b then 1#8 else 0#8
    let be2 (x : BitVec 16) : List Byte := [x.extractLsb' 8 8, x.extractLsb' 0 8]
    let be4 (x : BitVec 32) : List Byte :=
      [x.extractLsb' 24 8, x.extractLsb' 16 8, x.extractLsb' 8 8, x.extractLsb' 0 8]
    let num4 (x : Nat) : List Byte := be4 (BitVec.ofNat 32 x)
    let portState : PortState → Byte
      | .active => 0#8
      | .unwinding => 1#8
      | .resetting => 2#8
      | .wedged => 3#8
    let mode : Mode → BitVec 2
      | .pass => 0#2
      | .journal => 1#2
      | .guard => 2#2
    let requested := flag (decide (d.anchor.writerReq ≠ .none ∨ d.anchor.linkReq ≠ .none ∨
      d.anchor.recoveryReq ≠ .none ∨ d.anchor.format ≠ none))
    let updating := flag (decide (d.anchor.update ≠ none))
    let depth (p : Port) : Byte := BitVec.ofNat 8 (d.scope.get p).stack.length
    let state : List Byte :=
      [match d.part with
        | .cold => 0#8
        | .unformatted => 1#8
        | .recovering => 2#8
        | .running => 3#8
        | .failed => 4#8
        | .stopping => 5#8
        | .safe => 6#8,
       match d.recovery.result with
        | .none => 0#8
        | .clean => 1#8
        | .rolledBack => 2#8
        | .failed => 3#8,
       match d.recovery.cause with
        | none => 0#8
        | some .anchorRead => 1#8
        | some .scanRead => 2#8
        | some .chainRead => 3#8
        | some .chainCheck => 4#8
        | some .imageWrite => 5#8
        | some .closeAppend => 6#8
        | some .anchorWrite => 7#8,
       BitVec.ofNat 8 d.recovery.scopes, flag d.recovery.mismatch, flag d.recovery.anchorError,
       flag d.journal.faulted, BitVec.ofNat 8 d.rollback.jobs.length] ++
      num4 d.recovery.records ++ num4 d.recovery.images ++
      (match d.recovery.scanEnd with
        | some c => num4 c
        | none => [0xFF#8, 0xFF#8, 0xFF#8, 0xFF#8]) ++
      [match d.anchor.newest with
        | none => 0#8
        | some .a => 1#8
        | some .b => 2#8,
       flag d.anchor.otherValid, requested, updating] ++
      be4 d.anchor.generation ++
      be2 (BitVec.ofNat 16 (d.claims.slots.toList.filter Option.isSome).length) ++
      [portState d.scope.p0.state, depth .p0, portState d.scope.p1.state, depth .p1, 0#8, 0#8]
    let s := d.scope.get p
    let job : List Byte := match d.rollback.jobs.find? fun j => j.port == p with
      | none => [0#8, 0#8, 0#8, 0#8, 0#8, 0#8, 0#8, 0#8]
      | some j =>
        (match j.kind with
          | .level l => [1#8, BitVec.ofNat 8 l]
          | .all => [2#8, 0#8]) ++
        [match j.cause with
          | .merged => 1#8
          | .committed => 2#8
          | .abandonedHost => 3#8
          | .abandonedTimer => 4#8
          | .abandonedForced => 5#8
          | .abandonedPortReset => 6#8
          | .abandonedRecovery => 7#8,
         match j.phase with
          | .waiting => 0#8
          | .restoring => 1#8
          | .closing => 2#8,
         BitVec.ofNat 8 j.closed, 0#8] ++ be2 (BitVec.ofNat 16 j.restored)
    let level (l : Nat) : List Byte :=
      match if l ≤ s.stack.length then s.stack[s.stack.length - l]? else none with
      | some e => be2 e.serial ++ num4 e.position
      | none => [0xFF#8, 0xFF#8, 0xFF#8, 0xFF#8, 0xFF#8, 0xFF#8]
    let scope : List Byte :=
      [portState s.state, flag s.resetNoted, depth p,
       match s.action with
        | .alert => 0#8
        | .abandon => 1#8] ++
      be2 s.serialCounter ++ be2 s.limit ++
      [flag s.running,
       match s.pendingAbandon with
        | none => 0#8
        | some .timer => 4#8
        | some .forced => 5#8
        | some .portReset => 6#8] ++
      job ++ [0#8, 0#8] ++
      (if s.stack = [] then [0xFF#8, 0xFF#8, 0xFF#8, 0xFF#8]
       else if s.age ≤ 0xFFFFFFFE then num4 s.age
       else [0xFF#8, 0xFF#8, 0xFF#8, 0xFE#8]) ++
      level 1 ++ level 2 ++ level 3 ++ level 4
    let j := d.journal
    let journal : List Byte :=
      [flag j.faulted, BitVec.ofNat 8 (j.queue.length + if j.append = none then 0 else 1), requested, updating] ++
      num4 j.base ++ num4 j.lines ++ num4 (2 * j.lines) ++ num4 j.head ++ be4 j.nextSeq ++
      num4 j.liveTail.position ++ be4 j.liveTail.sequence ++ num4 j.tail ++ be4 j.tailSeq ++
      num4 j.freeAnchored ++ num4 j.freeLive ++ num4 j.lowWater ++ be2 j.epoch ++ [0#8, 0#8]
    let attrs : Byte := 0#4 ++ (BitVec.ofBool r.allow ++ (BitVec.ofBool r.enabled ++ mode r.mode))
    let slot (c : Option Claim) : List Byte := match c with
      | none => List.replicate 15 0#8
      | some c =>
        let image (level : Nat) : BitVec 20 := BitVec.ofNat 20 ((imageAt c.images level).getD 0)
        let held (level : Nat) : BitVec 1 := BitVec.ofBool (imageAt c.images level).isSome
        let port : BitVec 1 := match c.port with
          | .p0 => 0#1
          | .p1 => 1#1
        let positions : BitVec 80 := image 4 ++ (image 3 ++ (image 2 ++ image 1))
        num4 c.line ++
        [held 4 ++ (held 3 ++ (held 2 ++ (held 1 ++ (0#1 ++ (BitVec.ofBool c.recording ++ (port ++ 1#1))))))] ++
        (List.range 10).map fun k => positions.extractLsb' (8 * k) 8
    let slots : List Byte := ((d.claims.slots.toList.drop n).take 4).flatMap slot
    d.statePayload = state ∧ state.length = 36 ∧ d.scopePayload p = scope ∧ scope.length = 48 ∧
    d.journalPayload = (if d.part = .unformatted then List.replicate 56 0#8 else journal) ∧ journal.length = 56 ∧
    d.regionPayload r = num4 r.first ++ num4 r.last ++
      [attrs, 0#6 ++ mode d.regions.defaultMode, 0#8, 0#8] ++ num4 (d.regions.lineCount.getD 0) ∧
    (n ≤ 252 → d.claimsPayload n = slots ∧ slots.length = 60) ∧
    (n = 253 → d.claimsPayload n = slots ++ [0#8, 0#8, 0#8] ∧ slots.length = 45) ∧
    (n = 254 → d.claimsPayload n = slots ++ [0#8, 0#8] ∧ slots.length = 30) ∧
    (n = 255 → d.claimsPayload n = slots ++ [0#8] ∧ slots.length = 15)

/-- GET ALERTS reports latches, mask and the level of ALERT, in every part state; ACK ALERTS clears the named latches as one
event and reports those left, in RUNNING, UNFORMATTED and FAILED; in the other states it is refused WRONGSTATE and every
latch stays (R169, R143, R162). The link's own fields of the model are log entry 6. -/
def Obligations.AlertsAreReportedAndAcknowledged : Prop :=
  ∀ (q : List Instr) (d : Device) (f : Frame) (hi lo : Byte), FrameTaken d f →
    let two (m : BitVec 10) : List Byte := [0#6 ++ m.extractLsb' 8 2, m.extractLsb' 0 8]
    let named : BitVec 10 := (hi ++ lo).setWidth 10
    let left := d.alerts.latches &&& ~~~named
    (f.payload = [] → exec (.getAlerts f) ⟨q, d⟩ = .next ⟨q, tookFrame d f
      (.ready .done (two d.alerts.latches ++ two d.alerts.mask ++ byteParam (if d.alertLine then 1#8 else 0#8)))⟩) ∧
    (d.part = .running ∨ d.part = .unformatted ∨ d.part = .failed → f.payload = [hi, lo, 0#8, 0#8] →
      exec (.ackAlerts f) ⟨q, d⟩ = .next ⟨q, { tookFrame d f (.ready .done (two left ++ [0#8, 0#8])) with
        alerts := { d.alerts with latches := left } }⟩) ∧
    (d.part = .cold ∨ d.part = .recovering ∨ d.part = .stopping ∨ d.part = .safe →
      exec (.ackAlerts f) ⟨q, d⟩ = .next ⟨q, tookFrame d f (.ready .wrongState [])⟩)

/-- Power-on, PRST and RESET PART set every position of the mask and leave every latch clear but SAFE; SET ALERT MASK
replaces the whole mask and is answered DONE; a masked latch is set by its event all the same; the ALERT line is asserted
while at least one latch is both set and enabled, and released otherwise (R170, R144). The link's own fields of the model are log
entry 6. -/
def Obligations.AlertMaskAndLine : Prop :=
  ∀ (q : List Instr) (d : Device) (f : Frame) (hi lo : Byte) (n : Nat) (l : Latch),
    (Nexts (exec .powerOn ⟨q, d⟩) fun t => t.dev.alerts.mask = 0x3FF#10 ∧
      (d.pwrwarn = false → t.dev.alerts.latches = 0#10 ∧ t.dev.alertLine = false)) ∧
    (d.prst = false → Nexts (exec .prstAssert ⟨q, d⟩) fun t =>
      t.dev.alerts.mask = 0x3FF#10 ∧ t.dev.alerts.latches = 0#10 ∧ t.dev.alertLine = false) ∧
    (FrameTaken d f → d.part ≠ .stopping → d.part ≠ .safe → f.payload = [] → Nexts (exec (.resetPart f) ⟨q, d⟩) fun t =>
      t.dev.alerts.mask = 0x3FF#10 ∧ t.dev.alerts.latches = 0#10 ∧ t.dev.alertLine = false) ∧
    (FrameTaken d f → d.part = .running ∨ d.part = .unformatted ∨ d.part = .failed → f.payload = [hi, lo, 0#8, 0#8] →
      exec (.setAlertMask f) ⟨q, d⟩ = .next ⟨q, {
        tookFrame d f (.ready .done []) with alerts := { d.alerts with mask := (hi ++ lo).setWidth 10 } }⟩) ∧
    ((d.latch l).alerts.latches.getLsbD (latchBit l) = true ∧ (d.latch l).alerts.mask = d.alerts.mask ∧
      (n ≠ latchBit l → (d.latch l).alerts.latches.getLsbD n = d.alerts.latches.getLsbD n)) ∧
    (d.alertLine = true ↔ ∃ k, k < 10 ∧ d.alerts.latches.getLsbD k = true ∧ d.alerts.mask.getLsbD k = true)

/-- GET COUNTERS gives every counter of a page from 0 to 4 in the order of Table 12-4, the refusal counters in the order of
the response codes; any other page is BADPARAM. CLEAR COUNTERS sets every counter to 0 as one event and is answered DONE;
it is refused WRONGSTATE in COLD, RECOVERING, STOPPING and SAFE (R172, R162). The link's own fields of the model are log
entry 6. -/
def Obligations.CountersArePagedAndCleared : Prop :=
  ∀ (q : List Instr) (d : Device) (f : Frame) (p : Port) (page : Byte), FrameTaken d f →
    let be (x : BitVec 32) : List Byte :=
      [x.extractLsb' 24 8, x.extractLsb' 16 8, x.extractLsb' 8 8, x.extractLsb' 0 8]
    let c := d.counters.port.get p
    let r := c.refusals
    let replied (code : ReplyCode) (payload : List Byte) : Prop :=
      exec (.getCounters f) ⟨q, d⟩ = .next ⟨q, tookFrame d f (.ready code payload)⟩
    (f.payload = byteParam page →
      (page.toNat = 2 * p.num →
        replied .done (be c.images ++ be c.commits ++ be c.hostAbandons ++ be c.forcedAbandons)) ∧
      (page.toNat = 2 * p.num + 1 →
        replied .done (be r[0] ++ be r[1] ++ be r[2] ++ be r[3] ++ be r[4] ++ be r[5] ++ be r[6] ++ be r[7] ++
          be r[8] ++ be r[9] ++ be r[10] ++ be r[11] ++ be r[12] ++ be r[13] ++ be r[14])) ∧
      (page = 4#8 → replied .done (be d.counters.anchorWrites ++ be d.counters.arrayErrors ++
        be d.counters.arrayTimeouts ++ be d.counters.lateResponses ++ be d.counters.badFrames)) ∧
      (5 ≤ page.toNat → replied .badParam [])) ∧
    (d.part = .running ∨ d.part = .unformatted ∨ d.part = .failed → f.payload = [] →
      exec (.clearCounters f) ⟨q, d⟩ = .next ⟨q, {
        tookFrame d f (.ready .done []) with counters := (coldAfter d).counters }⟩) ∧
    (d.part = .cold ∨ d.part = .recovering ∨ d.part = .stopping ∨ d.part = .safe →
      exec (.clearCounters f) ⟨q, d⟩ = .next ⟨q, tookFrame d f (.ready .wrongState [])⟩)

/-- The setup commands, taken in RUNNING: the change is in force at once, an update request is made and the slot is
WORKING (R119): SET REGION and SET DEFAULT MODE while quiet (R74, R75), an enabled region lying within the array; SET
TIMER, which a running timer takes at once, expiring at or past the new limit, and a stopped one from the next level-1 OPEN,
a limit of 0 apart (R17, R16, R18; log entry 8); SET ARRAY TIMEOUT in steps of
10 from 10 to 2,550 µs (R159); SYNC ANCHOR. The link's own fields of the model are log entry 6. -/
def Obligations.SetupCommandsTakeEffect : Prop :=
  ∀ (q : List Instr) (p : Port) (d : Device) (f : Frame) (n a x3 x2 x1 x0 y3 y2 y1 y0 : Byte) (mode : Mode)
    (action : TimerAction),
    let s := d.scope.get p
    let first := (x3 ++ x2 ++ x1 ++ x0 : BitVec 32).toNat
    let last := (y3 ++ y2 ++ y1 ++ y0 : BitVec 32).toNat
    let region : Region := ⟨first, last, mode, a.getLsbD 2, a.getLsbD 3⟩
    let limit : BitVec 16 := x1 ++ x0
    let asking : Device := { tookFrame d f (.working .update) with anchor := { d.anchor with linkReq := .pending } }
    let due := s.running = true ∧ limit ≠ 0#16 ∧ limit.toNat ≤ s.age
    let taken (action : TimerAction) (expired : Bool) : ScopePort :=
      { s with limit := limit, action := action, scopeLimit := limit, scopeAction := action, expired := expired }
    let timed (s : ScopePort) : Device := { asking with scope := d.scope.set p s }
    let aged (s : ScopePort) : Device := { timed s with
      alerts := { d.alerts with latches := d.alerts.latches |||
        (match p with
          | .p0 => 0x001#10
          | .p1 => 0x002#10) } }
    FrameTaken d f → d.part = .running →
    (f.payload = [n, a, 0#8, 0#8, x3, x2, x1, x0, y3, y2, y1, y0] → n.toNat < 8 → a.extractLsb' 4 4 = 0#4 →
      BitVec.ofNat 2 (modeNum mode) = a.extractLsb' 0 2 → Quiet d →
      (region.enabled = true → first ≤ last ∧ last < d.regions.lineCount.getD 0) →
      exec (.setRegion f) ⟨q, d⟩ = .next ⟨q, { asking with
        regions := { d.regions with entries := d.regions.entries.setIfInBounds n.toNat region } }⟩) ∧
    (f.payload = byteParam (BitVec.ofNat 8 (modeNum mode)) → Quiet d →
      exec (.setDefaultMode f) ⟨q, d⟩ = .next ⟨q, { asking with regions := { d.regions with defaultMode := mode } }⟩) ∧
    (f.payload = [BitVec.ofNat 8 p.num, BitVec.ofNat 8 (actionNum action), x1, x0] →
      (s.running = false → exec (.setTimer f) ⟨q, d⟩ = .next ⟨q, timed { s with
        limit := limit, action := action, scopeLimit := if limit = 0#16 then 0#16 else s.scopeLimit }⟩) ∧
      (s.running = true → ¬due → exec (.setTimer f) ⟨q, d⟩ = .next ⟨q, timed (taken action false)⟩) ∧
      (due → action = .alert → exec (.setTimer f) ⟨q, d⟩ = .next ⟨q, aged (taken .alert true)⟩) ∧
      (due → action = .abandon → s.state ≠ .wedged → s.pendingAbandon = none →
        (∀ j ∈ d.rollback.jobs, j.port = p → j.kind ≠ .all) → exec (.setTimer f) ⟨q, d⟩ =
        .next ⟨q, aged { taken .abandon false with pendingAbandon := some .timer, running := false }⟩)) ∧
    (f.payload = [0#8, 0#8, x1, x0] → limit.toNat % 10 = 0 → 10 ≤ limit.toNat → limit.toNat ≤ 2550 →
      exec (.setArrayTimeout f) ⟨q, d⟩ = .next ⟨q, { asking with
        array := { d.array with timeout := BitVec.ofNat 8 (limit.toNat / 10) } }⟩) ∧
    (f.payload = [] → exec (.syncAnchor f) ⟨q, d⟩ = .next ⟨q, asking⟩)

/-- FORMAT JOURNAL within its ranges is accepted in UNFORMATTED and FAILED, and in RUNNING while quiet (R121); FORCE
ABANDON is accepted in RUNNING for a port neither WEDGED nor with a forced abandon in hand, recorded as pending with
cause FORCED and the timer stopped (R18, R21). The slot is WORKING. The link's own fields of the model are log entry 6. -/
def Obligations.FormatAndForceAreAccepted : Prop :=
  ∀ (q : List Instr) (p : Port) (d : Device) (f : Frame) (arrayLines base lines low : BitVec 32),
    let be (x : BitVec 32) : List Byte :=
      [x.extractLsb' 24 8, x.extractLsb' 16 8, x.extractLsb' 8 8, x.extractLsb' 0 8]
    let s := d.scope.get p
    FrameTaken d f →
    (f.payload = be arrayLines ++ be base ++ be lines ++ be low →
      d.part = .unformatted ∨ d.part = .failed ∨ (d.part = .running ∧ Quiet d) →
      1 ≤ arrayLines.toNat → arrayLines.toNat ≤ 2 ^ 26 → 4 ≤ base.toNat → 256 ≤ lines.toNat → lines.toNat ≤ 262144 →
      base.toNat + lines.toNat ≤ arrayLines.toNat → low.toNat ≤ 2 * lines.toNat - 9 →
      exec (.formatJournal f) ⟨q, d⟩ = .next ⟨q, { tookFrame d f (.working .format) with
        anchor := { d.anchor with
          format := some ⟨arrayLines.toNat, base.toNat, lines.toNat, low.toNat, d.part⟩ } }⟩) ∧
    (f.payload = byteParam (BitVec.ofNat 8 p.num) → d.part = .running →
      (s.state ≠ .wedged → s.pendingAbandon = none → (∀ j ∈ d.rollback.jobs, j.port = p → j.kind ≠ .all) →
        exec (.forceAbandon f) ⟨q, d⟩ = .next ⟨q, { tookFrame d f (.working (.force p)) with
          scope := d.scope.set p { s with pendingAbandon := some .forced, running := false } }⟩) ∧
      (s.state = .wedged ∨ s.pendingAbandon ≠ none ∨ (∃ j ∈ d.rollback.jobs, j.port = p ∧ j.kind = .all) →
        exec (.forceAbandon f) ⟨q, d⟩ = .next ⟨q, tookFrame d f (.ready .wrongState [])⟩))

/-- FETCH REPLY, whatever its payload and the part state: a slot READY as its check is clocked in serves its reply after the
check (code, exchange number and length, payload, CRC-8), is EMPTY once the last byte is clocked, and READY with the same
reply when fewer are; an EMPTY slot sends zeros and stays EMPTY; in a WORKING one the frame is discarded; one that becomes
READY after the check sends zeros and keeps its reply (R165, R161). BAD_FRAMES stays, but for a frame that ends with a
part-byte after the whole reply or with the slot EMPTY (R163, R165; log entry 34). The zeros after the reply are log entry
36; the bytes driven and the selection are the model's (log entry 6). -/
def Obligations.FetchReplyServesTheReply : Prop :=
  ∀ (q : List Instr) (d : Device) (f : Frame), FrameEnds d f.selected →
    let cut : Counters :=
      if f.partByte then { d.counters with badFrames := counted d.counters.badFrames } else d.counters
    let answers (link : LinkController) (counters : Counters) : Prop :=
      exec (.fetchReply f) ⟨q, d⟩ = .next ⟨q, { d with link := { link with ended := false }, counters := counters }⟩
    let idle : LinkController := { d.link with sent := idleBytes d f.selected (wholeFrame f) }
    (∀ code payload, d.link.slot = .ready code payload →
      let head := replyValue code :: (d.link.exchange ++ BitVec.ofNat 4 (payload.length / 4) : Byte) :: payload
      let bytes := head ++ [crc8 head]
      let lead := idleBytes d f.selected (3 + f.payload.length)
      (f.selected ≠ .checkedBeforeReply → bytes.length ≤ f.extra →
        answers { d.link with
          slot := .empty, sent := lead ++ bytes ++ List.replicate (f.extra - bytes.length) 0#8 } cut) ∧
      (f.selected ≠ .checkedBeforeReply → f.extra < bytes.length →
        answers { d.link with sent := lead ++ bytes.take f.extra } d.counters) ∧
      (f.selected = .checkedBeforeReply → answers idle d.counters)) ∧
    (d.link.slot = .empty → answers idle cut) ∧
    (∀ w, d.link.slot = .working w → answers idle d.counters) ∧
    (f.wellFormed = true → decodeFrame f.selected (encodeFrame 0x0F#8 f) true = some (.fetchReply { f with partByte := true }))

/-- While the slot is WORKING every frame is discarded unchecked: nothing changes but what the part drives on data out.
Otherwise a frame cut short is discarded and counted in BAD_FRAMES; one with a wrong check is counted and answered BADCHECK
with its exchange number; an unknown code is answered UNKNOWN (R163, R164). The state byte is that of the selection: WORKING
where the work of the command in the slot ended during the frame; a frame in progress when the part is reset is not taken
(R161). The bytes driven and the place of the selection are the model's (log entry 6). -/
def Obligations.SpoiledFramesAreAnswered : Prop :=
  ∀ (q : List Instr) (d : Device) (f : Frame) (cut : CutFrame) (code : Byte) (n : Nat),
    let counters := { d.counters with badFrames := counted d.counters.badFrames }
    let driven (bytes : List Byte) : Device := { d with link := { d.link with sent := bytes, ended := false } }
    let carried (c : Instr) : Prop := (∃ k, frameOf c = some (k, f)) ∨ c = .badCheck f
    (∀ w, d.link.slot = .working w →
      exec (.frameWhileWorking n) ⟨q, d⟩ = .next ⟨q, driven ((d.link.exchange ++ 1#4) :: List.replicate (n - 1) 0#8)⟩ ∧
      (FrameEnds d cut.selected →
        exec (.frameCutShort cut) ⟨q, d⟩ = .next ⟨q, driven (idleBytes d cut.selected cut.clocked)⟩) ∧
      ∀ c, carried c → FrameEnds d f.selected →
        exec c ⟨q, d⟩ = .next ⟨q, driven (idleBytes d f.selected (wholeFrame f))⟩) ∧
    (SlotFree d → FrameEnds d cut.selected → exec (.frameCutShort cut) ⟨q, d⟩ =
      .next ⟨q, { driven (idleBytes d cut.selected cut.clocked) with counters := counters }⟩) ∧
    (FrameTaken d f →
      exec (.badCheck f) ⟨q, d⟩ = .next ⟨q, { tookFrame d f (.ready .badCheck []) with counters := counters }⟩ ∧
      exec (.unknown code f) ⟨q, d⟩ = .next ⟨q, tookFrame d f (.ready .unknown [])⟩) ∧
    (∀ c, carried c → f.selected = .beforeReset → exec c ⟨q, d⟩ = .next ⟨q, d⟩) ∧
    (cut.selected = .beforeReset → exec (.frameCutShort cut) ⟨q, d⟩ = .next ⟨q, d⟩)

/-- The order of R164: in a part state that does not admit it a command is answered WRONGSTATE whatever its payload; in one
that does, a payload of another length, a parameter outside its range or a zero byte that is not zero is answered BADPARAM
(R174, R74, R75, R17, R159, R121); then SET REGION, SET DEFAULT MODE and FORMAT JOURNAL in RUNNING and not quiet are answered
NOTQUIET (R74, R75, R121). Nothing else changes (Table 8-6, R143). Bits 4 to 7 of an attribute byte are log entry 11, the
link's own fields of the model log entry 6, COLD under PRST log entry 19. -/
def Obligations.CommandsAreRefusedInOrder : Prop :=
  ∀ (q : List Instr) (d : Device) (f : Frame) (c : Instr),
    let refused (code : ReplyCode) : Prop := exec c ⟨q, d⟩ = .next ⟨q, tookFrame d f (.ready code [])⟩
    let setups : List Instr := [.setRegion f, .setDefaultMode f, .setTimer f, .setArrayTimeout f, .syncAnchor f, .forceAbandon f]
    let upkeep : List Instr := [.ackAlerts f, .setAlertMask f, .clearCounters f, .formatJournal f]
    let admitted := (c ∈ setups → d.part = .running) ∧
      (c ∈ upkeep → d.part = .running ∨ d.part = .unformatted ∨ d.part = .failed) ∧
      (c = .resetPart f → d.part ≠ .stopping ∧ d.part ≠ .safe)
    let be (x : BitVec 32) : List Byte :=
      [x.extractLsb' 24 8, x.extractLsb' 16 8, x.extractLsb' 8 8, x.extractLsb' 0 8]
    FrameTaken d f →
    (c ∈ setups → d.part ≠ .running → refused .wrongState) ∧
    (c ∈ upkeep → d.part ≠ .running → d.part ≠ .unformatted → d.part ≠ .failed → refused .wrongState) ∧
    (c = .resetPart f → d.part = .stopping ∨ d.part = .safe → refused .wrongState) ∧
    (admitted → c ∈ [.getState f, .getJournal f, .getAlerts f, .clearCounters f, .syncAnchor f, .resetPart f] →
      f.payload ≠ [] → refused .badParam) ∧
    (admitted → c ∈ [.getScope f, .getClaims f, .getRegion f, .getCounters f, .ackAlerts f, .setAlertMask f,
      .setDefaultMode f, .setTimer f, .setArrayTimeout f, .forceAbandon f] → f.payload.length ≠ 4 → refused .badParam) ∧
    (admitted → c = .setRegion f → f.payload.length ≠ 12 → refused .badParam) ∧
    (admitted → c = .formatJournal f → f.payload.length ≠ 16 → refused .badParam) ∧
    (∀ x z1 z2 z3 : Byte, admitted → f.payload = [x, z1, z2, z3] →
      (c ∈ [.getScope f, .getClaims f, .getRegion f, .getCounters f, .setDefaultMode f, .forceAbandon f] →
        ¬(z1 = 0#8 ∧ z2 = 0#8 ∧ z3 = 0#8) → refused .badParam) ∧
      (c ∈ [.ackAlerts f, .setAlertMask f] → ¬(z2 = 0#8 ∧ z3 = 0#8) → refused .badParam) ∧
      (c = .setDefaultMode f → 3 ≤ x.toNat → refused .badParam) ∧
      (c = .forceAbandon f → 2 ≤ x.toNat → refused .badParam) ∧
      (c = .setTimer f → 2 ≤ x.toNat ∨ 2 ≤ z1.toNat → refused .badParam) ∧
      (c = .setArrayTimeout f →
        let timeout := (z2 ++ z3 : BitVec 16).toNat
        ¬(x = 0#8 ∧ z1 = 0#8) ∨ timeout % 10 ≠ 0 ∨ timeout < 10 ∨ 2550 < timeout → refused .badParam) ∧
      (c = .setDefaultMode f → z1 = 0#8 → z2 = 0#8 → z3 = 0#8 → x.toNat < 3 → ¬Quiet d → refused .notQuiet)) ∧
    (∀ (n a z1 z2 : Byte) (first last : BitVec 32), d.part = .running → c = .setRegion f →
      f.payload = [n, a, z1, z2] ++ be first ++ be last →
      let enabled := a.getLsbD 2 = true
      let inRange := z1 = 0#8 ∧ z2 = 0#8 ∧ n.toNat < 8 ∧ a.extractLsb' 0 2 ≠ 3#2 ∧ a.extractLsb' 4 4 = 0#4 ∧
        (enabled → first.toNat ≤ last.toNat ∧ last.toNat < d.regions.lineCount.getD 0)
      (¬inRange → refused .badParam) ∧ (inRange → ¬Quiet d → refused .notQuiet)) ∧
    (∀ arrayLines base lines low : BitVec 32, admitted → c = .formatJournal f →
      f.payload = be arrayLines ++ be base ++ be lines ++ be low →
      let inRange := 1 ≤ arrayLines.toNat ∧ arrayLines.toNat ≤ 2 ^ 26 ∧ 4 ≤ base.toNat ∧ 256 ≤ lines.toNat ∧
        lines.toNat ≤ 262144 ∧ base.toNat + lines.toNat ≤ arrayLines.toNat ∧ low.toNat ≤ 2 * lines.toNat - 9
      (¬inRange → refused .badParam) ∧ (inRange → d.part = .running → ¬Quiet d → refused .notQuiet))

/-! ## The whole part -/

/-- Every command but a part reset leaves each counter at least as high, CLEAR COUNTERS apart, each latch set that was,
ACK ALERTS apart, and the mask as it was, SET ALERT MASK apart (R167, R169, R170, R171). -/
def Obligations.AlertsAndCountersOnlyGrow : Prop :=
  ∀ (s : State) (c : Instr), c ≠ .powerOn → c ≠ .prstAssert → (∀ f, c ≠ .resetPart f) → Nexts (exec c s) fun t =>
    let before := s.dev.counters
    let after := t.dev.counters
    ((∀ f, c ≠ .ackAlerts f) → s.dev.alerts.latches ||| t.dev.alerts.latches = t.dev.alerts.latches) ∧
    ((∀ f, c ≠ .setAlertMask f) → t.dev.alerts.mask = s.dev.alerts.mask) ∧
    ((∀ f, c ≠ .clearCounters f) →
      before.anchorWrites ≤ after.anchorWrites ∧ before.arrayErrors ≤ after.arrayErrors ∧
      before.arrayTimeouts ≤ after.arrayTimeouts ∧ before.lateResponses ≤ after.lateResponses ∧
      before.badFrames ≤ after.badFrames ∧
      ∀ p, (before.port.get p).images ≤ (after.port.get p).images ∧
        (before.port.get p).commits ≤ (after.port.get p).commits ∧
        (before.port.get p).hostAbandons ≤ (after.port.get p).hostAbandons ∧
        (before.port.get p).forcedAbandons ≤ (after.port.get p).forcedAbandons ∧
        ∀ k : Fin 15, (before.port.get p).refusals[k] ≤ (after.port.get p).refusals[k])
end

