-- ==== Sys2Proof/Laws/State.lean ====
section
/-!
SUPPORT. The small lemmas of the state's updates: reading one port's value after writing another's, and, for each named
update of the part, what each field reads after it. All are by rfl or by cases on the port; all are simp lemmas.
-/
namespace Sys2Proof.Machine

/-! ## One value for each port -/

section PerPort
variable {α : Type} (x : PerPort α) (v w : α)

@[simp] theorem PerPort.get_set_self (p : Port) : (x.set p v).get p = v := by cases p <;> rfl

@[simp] theorem PerPort.get_set_other (p : Port) : (x.set p v).get p.other = x.get p.other := by cases p <;> rfl

@[simp] theorem PerPort.get_other_set (p : Port) : (x.set p.other v).get p = x.get p := by cases p <;> rfl

theorem PerPort.get_set_of_ne {p r : Port} (h : r ≠ p) : (x.set p v).get r = x.get r := by
  cases p <;> cases r <;> first | rfl | exact absurd rfl h

@[simp] theorem PerPort.set_get (p : Port) : x.set p (x.get p) = x := by cases p <;> rfl

@[simp] theorem PerPort.set_set (p : Port) : (x.set p v).set p w = x.set p w := by cases p <;> rfl

@[simp] theorem PerPort.get_p0 : x.get .p0 = x.p0 := rfl

@[simp] theorem PerPort.get_p1 : x.get .p1 = x.p1 := rfl

@[simp] theorem PerPort.set_p0 : x.set .p0 v = ⟨v, x.p1⟩ := rfl

@[simp] theorem PerPort.set_p1 : x.set .p1 v = ⟨x.p0, v⟩ := rfl

theorem PerPort.ext_get {x y : PerPort α} (h : ∀ p, x.get p = y.get p) : x = y := by
  cases x; cases y; exact congr (congrArg PerPort.mk (h .p0)) (h .p1)

end PerPort

@[simp] theorem Port.other_other (p : Port) : p.other.other = p := by cases p <;> rfl

theorem Port.other_ne (p : Port) : p.other ≠ p := by cases p <;> simp [Port.other]

/-! ## The part's fields after each update -/

section Fields
variable (d : Device)


@[simp] theorem Device.onHost_part (p : Port) (f : HostPort → HostPort) : (d.onHost p f).part = d.part := rfl
@[simp] theorem Device.onHost_prst (p : Port) (f : HostPort → HostPort) : (d.onHost p f).prst = d.prst := rfl
@[simp] theorem Device.onHost_pwrwarn (p : Port) (f : HostPort → HostPort) : (d.onHost p f).pwrwarn =
    d.pwrwarn := rfl
@[simp] theorem Device.onHost_host (p : Port) (f : HostPort → HostPort) : (d.onHost p f).host =
    d.host.set p (f (d.host.get p)) := rfl
@[simp] theorem Device.onHost_scope (p : Port) (f : HostPort → HostPort) : (d.onHost p f).scope = d.scope := rfl
@[simp] theorem Device.onHost_regions (p : Port) (f : HostPort → HostPort) : (d.onHost p f).regions =
    d.regions := rfl
@[simp] theorem Device.onHost_claims (p : Port) (f : HostPort → HostPort) : (d.onHost p f).claims = d.claims := rfl
@[simp] theorem Device.onHost_journal (p : Port) (f : HostPort → HostPort) : (d.onHost p f).journal =
    d.journal := rfl
@[simp] theorem Device.onHost_anchor (p : Port) (f : HostPort → HostPort) : (d.onHost p f).anchor = d.anchor := rfl
@[simp] theorem Device.onHost_rollback (p : Port) (f : HostPort → HostPort) : (d.onHost p f).rollback =
    d.rollback := rfl
@[simp] theorem Device.onHost_recovery (p : Port) (f : HostPort → HostPort) : (d.onHost p f).recovery =
    d.recovery := rfl
@[simp] theorem Device.onHost_array (p : Port) (f : HostPort → HostPort) : (d.onHost p f).array = d.array := rfl
@[simp] theorem Device.onHost_link (p : Port) (f : HostPort → HostPort) : (d.onHost p f).link = d.link := rfl
@[simp] theorem Device.onHost_alerts (p : Port) (f : HostPort → HostPort) : (d.onHost p f).alerts = d.alerts := rfl
@[simp] theorem Device.onHost_counters (p : Port) (f : HostPort → HostPort) : (d.onHost p f).counters =
    d.counters := rfl
@[simp] theorem Device.onHost_choice (p : Port) (f : HostPort → HostPort) : (d.onHost p f).choice = d.choice := rfl

@[simp] theorem Device.onScope_part (p : Port) (f : ScopePort → ScopePort) : (d.onScope p f).part = d.part := rfl
@[simp] theorem Device.onScope_prst (p : Port) (f : ScopePort → ScopePort) : (d.onScope p f).prst = d.prst := rfl
@[simp] theorem Device.onScope_pwrwarn (p : Port) (f : ScopePort → ScopePort) : (d.onScope p f).pwrwarn =
    d.pwrwarn := rfl
@[simp] theorem Device.onScope_host (p : Port) (f : ScopePort → ScopePort) : (d.onScope p f).host = d.host := rfl
@[simp] theorem Device.onScope_scope (p : Port) (f : ScopePort → ScopePort) : (d.onScope p f).scope =
    d.scope.set p (f (d.scope.get p)) := rfl
@[simp] theorem Device.onScope_regions (p : Port) (f : ScopePort → ScopePort) : (d.onScope p f).regions =
    d.regions := rfl
@[simp] theorem Device.onScope_claims (p : Port) (f : ScopePort → ScopePort) : (d.onScope p f).claims =
    d.claims := rfl
@[simp] theorem Device.onScope_journal (p : Port) (f : ScopePort → ScopePort) : (d.onScope p f).journal =
    d.journal := rfl
@[simp] theorem Device.onScope_anchor (p : Port) (f : ScopePort → ScopePort) : (d.onScope p f).anchor =
    d.anchor := rfl
@[simp] theorem Device.onScope_rollback (p : Port) (f : ScopePort → ScopePort) : (d.onScope p f).rollback =
    d.rollback := rfl
@[simp] theorem Device.onScope_recovery (p : Port) (f : ScopePort → ScopePort) : (d.onScope p f).recovery =
    d.recovery := rfl
@[simp] theorem Device.onScope_array (p : Port) (f : ScopePort → ScopePort) : (d.onScope p f).array = d.array := rfl
@[simp] theorem Device.onScope_link (p : Port) (f : ScopePort → ScopePort) : (d.onScope p f).link = d.link := rfl
@[simp] theorem Device.onScope_alerts (p : Port) (f : ScopePort → ScopePort) : (d.onScope p f).alerts =
    d.alerts := rfl
@[simp] theorem Device.onScope_counters (p : Port) (f : ScopePort → ScopePort) : (d.onScope p f).counters =
    d.counters := rfl
@[simp] theorem Device.onScope_choice (p : Port) (f : ScopePort → ScopePort) : (d.onScope p f).choice =
    d.choice := rfl

@[simp] theorem Device.latch_part (l : Latch) : (d.latch l).part = d.part := rfl
@[simp] theorem Device.latch_prst (l : Latch) : (d.latch l).prst = d.prst := rfl
@[simp] theorem Device.latch_pwrwarn (l : Latch) : (d.latch l).pwrwarn = d.pwrwarn := rfl
@[simp] theorem Device.latch_host (l : Latch) : (d.latch l).host = d.host := rfl
@[simp] theorem Device.latch_scope (l : Latch) : (d.latch l).scope = d.scope := rfl
@[simp] theorem Device.latch_regions (l : Latch) : (d.latch l).regions = d.regions := rfl
@[simp] theorem Device.latch_claims (l : Latch) : (d.latch l).claims = d.claims := rfl
@[simp] theorem Device.latch_journal (l : Latch) : (d.latch l).journal = d.journal := rfl
@[simp] theorem Device.latch_anchor (l : Latch) : (d.latch l).anchor = d.anchor := rfl
@[simp] theorem Device.latch_rollback (l : Latch) : (d.latch l).rollback = d.rollback := rfl
@[simp] theorem Device.latch_recovery (l : Latch) : (d.latch l).recovery = d.recovery := rfl
@[simp] theorem Device.latch_array (l : Latch) : (d.latch l).array = d.array := rfl
@[simp] theorem Device.latch_link (l : Latch) : (d.latch l).link = d.link := rfl
@[simp] theorem Device.latch_alerts (l : Latch) : (d.latch l).alerts =
    { d.alerts with latches := d.alerts.latches ||| (1#10 <<< latchBit l) } := rfl
@[simp] theorem Device.latch_counters (l : Latch) : (d.latch l).counters = d.counters := rfl
@[simp] theorem Device.latch_choice (l : Latch) : (d.latch l).choice = d.choice := rfl

@[simp] theorem Device.countPort_part (p : Port) (f : PortCounters → PortCounters) : (d.countPort p f).part =
    d.part := rfl
@[simp] theorem Device.countPort_prst (p : Port) (f : PortCounters → PortCounters) : (d.countPort p f).prst =
    d.prst := rfl
@[simp] theorem Device.countPort_pwrwarn (p : Port) (f : PortCounters → PortCounters) : (d.countPort p f).pwrwarn =
    d.pwrwarn := rfl
@[simp] theorem Device.countPort_host (p : Port) (f : PortCounters → PortCounters) : (d.countPort p f).host =
    d.host := rfl
@[simp] theorem Device.countPort_scope (p : Port) (f : PortCounters → PortCounters) : (d.countPort p f).scope =
    d.scope := rfl
@[simp] theorem Device.countPort_regions (p : Port) (f : PortCounters → PortCounters) : (d.countPort p f).regions =
    d.regions := rfl
@[simp] theorem Device.countPort_claims (p : Port) (f : PortCounters → PortCounters) : (d.countPort p f).claims =
    d.claims := rfl
@[simp] theorem Device.countPort_journal (p : Port) (f : PortCounters → PortCounters) : (d.countPort p f).journal =
    d.journal := rfl
@[simp] theorem Device.countPort_anchor (p : Port) (f : PortCounters → PortCounters) : (d.countPort p f).anchor =
    d.anchor := rfl
@[simp] theorem Device.countPort_rollback (p : Port) (f : PortCounters → PortCounters) : (d.countPort p f).rollback =
    d.rollback := rfl
@[simp] theorem Device.countPort_recovery (p : Port) (f : PortCounters → PortCounters) : (d.countPort p f).recovery =
    d.recovery := rfl
@[simp] theorem Device.countPort_array (p : Port) (f : PortCounters → PortCounters) : (d.countPort p f).array =
    d.array := rfl
@[simp] theorem Device.countPort_link (p : Port) (f : PortCounters → PortCounters) : (d.countPort p f).link =
    d.link := rfl
@[simp] theorem Device.countPort_alerts (p : Port) (f : PortCounters → PortCounters) : (d.countPort p f).alerts =
    d.alerts := rfl
@[simp] theorem Device.countPort_counters (p : Port) (f : PortCounters → PortCounters) : (d.countPort p f).counters =
    { d.counters with port := d.counters.port.set p (f (d.counters.port.get p)) } := rfl
@[simp] theorem Device.countPort_choice (p : Port) (f : PortCounters → PortCounters) : (d.countPort p f).choice =
    d.choice := rfl

@[simp] theorem Device.countAnchorWrite_part : (d.countAnchorWrite).part = d.part := rfl
@[simp] theorem Device.countAnchorWrite_prst : (d.countAnchorWrite).prst = d.prst := rfl
@[simp] theorem Device.countAnchorWrite_pwrwarn : (d.countAnchorWrite).pwrwarn = d.pwrwarn := rfl
@[simp] theorem Device.countAnchorWrite_host : (d.countAnchorWrite).host = d.host := rfl
@[simp] theorem Device.countAnchorWrite_scope : (d.countAnchorWrite).scope = d.scope := rfl
@[simp] theorem Device.countAnchorWrite_regions : (d.countAnchorWrite).regions = d.regions := rfl
@[simp] theorem Device.countAnchorWrite_claims : (d.countAnchorWrite).claims = d.claims := rfl
@[simp] theorem Device.countAnchorWrite_journal : (d.countAnchorWrite).journal = d.journal := rfl
@[simp] theorem Device.countAnchorWrite_anchor : (d.countAnchorWrite).anchor = d.anchor := rfl
@[simp] theorem Device.countAnchorWrite_rollback : (d.countAnchorWrite).rollback = d.rollback := rfl
@[simp] theorem Device.countAnchorWrite_recovery : (d.countAnchorWrite).recovery = d.recovery := rfl
@[simp] theorem Device.countAnchorWrite_array : (d.countAnchorWrite).array = d.array := rfl
@[simp] theorem Device.countAnchorWrite_link : (d.countAnchorWrite).link = d.link := rfl
@[simp] theorem Device.countAnchorWrite_alerts : (d.countAnchorWrite).alerts = d.alerts := rfl
@[simp] theorem Device.countAnchorWrite_counters : (d.countAnchorWrite).counters =
    { d.counters with anchorWrites := bump d.counters.anchorWrites } := rfl
@[simp] theorem Device.countAnchorWrite_choice : (d.countAnchorWrite).choice = d.choice := rfl

@[simp] theorem Device.countArrayError_part : (d.countArrayError).part = d.part := rfl
@[simp] theorem Device.countArrayError_prst : (d.countArrayError).prst = d.prst := rfl
@[simp] theorem Device.countArrayError_pwrwarn : (d.countArrayError).pwrwarn = d.pwrwarn := rfl
@[simp] theorem Device.countArrayError_host : (d.countArrayError).host = d.host := rfl
@[simp] theorem Device.countArrayError_scope : (d.countArrayError).scope = d.scope := rfl
@[simp] theorem Device.countArrayError_regions : (d.countArrayError).regions = d.regions := rfl
@[simp] theorem Device.countArrayError_claims : (d.countArrayError).claims = d.claims := rfl
@[simp] theorem Device.countArrayError_journal : (d.countArrayError).journal = d.journal := rfl
@[simp] theorem Device.countArrayError_anchor : (d.countArrayError).anchor = d.anchor := rfl
@[simp] theorem Device.countArrayError_rollback : (d.countArrayError).rollback = d.rollback := rfl
@[simp] theorem Device.countArrayError_recovery : (d.countArrayError).recovery = d.recovery := rfl
@[simp] theorem Device.countArrayError_array : (d.countArrayError).array = d.array := rfl
@[simp] theorem Device.countArrayError_link : (d.countArrayError).link = d.link := rfl
@[simp] theorem Device.countArrayError_alerts : (d.countArrayError).alerts = d.alerts := rfl
@[simp] theorem Device.countArrayError_counters : (d.countArrayError).counters =
    { d.counters with arrayErrors := bump d.counters.arrayErrors } := rfl
@[simp] theorem Device.countArrayError_choice : (d.countArrayError).choice = d.choice := rfl

@[simp] theorem Device.countArrayTimeout_part : (d.countArrayTimeout).part = d.part := rfl
@[simp] theorem Device.countArrayTimeout_prst : (d.countArrayTimeout).prst = d.prst := rfl
@[simp] theorem Device.countArrayTimeout_pwrwarn : (d.countArrayTimeout).pwrwarn = d.pwrwarn := rfl
@[simp] theorem Device.countArrayTimeout_host : (d.countArrayTimeout).host = d.host := rfl
@[simp] theorem Device.countArrayTimeout_scope : (d.countArrayTimeout).scope = d.scope := rfl
@[simp] theorem Device.countArrayTimeout_regions : (d.countArrayTimeout).regions = d.regions := rfl
@[simp] theorem Device.countArrayTimeout_claims : (d.countArrayTimeout).claims = d.claims := rfl
@[simp] theorem Device.countArrayTimeout_journal : (d.countArrayTimeout).journal = d.journal := rfl
@[simp] theorem Device.countArrayTimeout_anchor : (d.countArrayTimeout).anchor = d.anchor := rfl
@[simp] theorem Device.countArrayTimeout_rollback : (d.countArrayTimeout).rollback = d.rollback := rfl
@[simp] theorem Device.countArrayTimeout_recovery : (d.countArrayTimeout).recovery = d.recovery := rfl
@[simp] theorem Device.countArrayTimeout_array : (d.countArrayTimeout).array = d.array := rfl
@[simp] theorem Device.countArrayTimeout_link : (d.countArrayTimeout).link = d.link := rfl
@[simp] theorem Device.countArrayTimeout_alerts : (d.countArrayTimeout).alerts = d.alerts := rfl
@[simp] theorem Device.countArrayTimeout_counters : (d.countArrayTimeout).counters = { d.counters with
      arrayErrors := bump d.counters.arrayErrors, arrayTimeouts := bump d.counters.arrayTimeouts } := rfl
@[simp] theorem Device.countArrayTimeout_choice : (d.countArrayTimeout).choice = d.choice := rfl

@[simp] theorem Device.countLateResponse_part : (d.countLateResponse).part = d.part := rfl
@[simp] theorem Device.countLateResponse_prst : (d.countLateResponse).prst = d.prst := rfl
@[simp] theorem Device.countLateResponse_pwrwarn : (d.countLateResponse).pwrwarn = d.pwrwarn := rfl
@[simp] theorem Device.countLateResponse_host : (d.countLateResponse).host = d.host := rfl
@[simp] theorem Device.countLateResponse_scope : (d.countLateResponse).scope = d.scope := rfl
@[simp] theorem Device.countLateResponse_regions : (d.countLateResponse).regions = d.regions := rfl
@[simp] theorem Device.countLateResponse_claims : (d.countLateResponse).claims = d.claims := rfl
@[simp] theorem Device.countLateResponse_journal : (d.countLateResponse).journal = d.journal := rfl
@[simp] theorem Device.countLateResponse_anchor : (d.countLateResponse).anchor = d.anchor := rfl
@[simp] theorem Device.countLateResponse_rollback : (d.countLateResponse).rollback = d.rollback := rfl
@[simp] theorem Device.countLateResponse_recovery : (d.countLateResponse).recovery = d.recovery := rfl
@[simp] theorem Device.countLateResponse_array : (d.countLateResponse).array = d.array := rfl
@[simp] theorem Device.countLateResponse_link : (d.countLateResponse).link = d.link := rfl
@[simp] theorem Device.countLateResponse_alerts : (d.countLateResponse).alerts = d.alerts := rfl
@[simp] theorem Device.countLateResponse_counters : (d.countLateResponse).counters =
    { d.counters with lateResponses := bump d.counters.lateResponses } := rfl
@[simp] theorem Device.countLateResponse_choice : (d.countLateResponse).choice = d.choice := rfl

@[simp] theorem Device.countBadFrame_part : (d.countBadFrame).part = d.part := rfl
@[simp] theorem Device.countBadFrame_prst : (d.countBadFrame).prst = d.prst := rfl
@[simp] theorem Device.countBadFrame_pwrwarn : (d.countBadFrame).pwrwarn = d.pwrwarn := rfl
@[simp] theorem Device.countBadFrame_host : (d.countBadFrame).host = d.host := rfl
@[simp] theorem Device.countBadFrame_scope : (d.countBadFrame).scope = d.scope := rfl
@[simp] theorem Device.countBadFrame_regions : (d.countBadFrame).regions = d.regions := rfl
@[simp] theorem Device.countBadFrame_claims : (d.countBadFrame).claims = d.claims := rfl
@[simp] theorem Device.countBadFrame_journal : (d.countBadFrame).journal = d.journal := rfl
@[simp] theorem Device.countBadFrame_anchor : (d.countBadFrame).anchor = d.anchor := rfl
@[simp] theorem Device.countBadFrame_rollback : (d.countBadFrame).rollback = d.rollback := rfl
@[simp] theorem Device.countBadFrame_recovery : (d.countBadFrame).recovery = d.recovery := rfl
@[simp] theorem Device.countBadFrame_array : (d.countBadFrame).array = d.array := rfl
@[simp] theorem Device.countBadFrame_link : (d.countBadFrame).link = d.link := rfl
@[simp] theorem Device.countBadFrame_alerts : (d.countBadFrame).alerts = d.alerts := rfl
@[simp] theorem Device.countBadFrame_counters : (d.countBadFrame).counters =
    { d.counters with badFrames := bump d.counters.badFrames } := rfl
@[simp] theorem Device.countBadFrame_choice : (d.countBadFrame).choice = d.choice := rfl

@[simp] theorem Device.askHost_part (p : Port) (a : Access) : (d.askHost p a).part = d.part := rfl
@[simp] theorem Device.askHost_prst (p : Port) (a : Access) : (d.askHost p a).prst = d.prst := rfl
@[simp] theorem Device.askHost_pwrwarn (p : Port) (a : Access) : (d.askHost p a).pwrwarn = d.pwrwarn := rfl
@[simp] theorem Device.askHost_host (p : Port) (a : Access) : (d.askHost p a).host = d.host := rfl
@[simp] theorem Device.askHost_scope (p : Port) (a : Access) : (d.askHost p a).scope = d.scope := rfl
@[simp] theorem Device.askHost_regions (p : Port) (a : Access) : (d.askHost p a).regions = d.regions := rfl
@[simp] theorem Device.askHost_claims (p : Port) (a : Access) : (d.askHost p a).claims = d.claims := rfl
@[simp] theorem Device.askHost_journal (p : Port) (a : Access) : (d.askHost p a).journal = d.journal := rfl
@[simp] theorem Device.askHost_anchor (p : Port) (a : Access) : (d.askHost p a).anchor = d.anchor := rfl
@[simp] theorem Device.askHost_rollback (p : Port) (a : Access) : (d.askHost p a).rollback = d.rollback := rfl
@[simp] theorem Device.askHost_recovery (p : Port) (a : Access) : (d.askHost p a).recovery = d.recovery := rfl
@[simp] theorem Device.askHost_array (p : Port) (a : Access) : (d.askHost p a).array =
    { d.array with hostReq := d.array.hostReq.set p (d.array.hostReq.get p ++ [a]) } := rfl
@[simp] theorem Device.askHost_link (p : Port) (a : Access) : (d.askHost p a).link = d.link := rfl
@[simp] theorem Device.askHost_alerts (p : Port) (a : Access) : (d.askHost p a).alerts = d.alerts := rfl
@[simp] theorem Device.askHost_counters (p : Port) (a : Access) : (d.askHost p a).counters = d.counters := rfl
@[simp] theorem Device.askHost_choice (p : Port) (a : Access) : (d.askHost p a).choice = d.choice := rfl

@[simp] theorem Device.askAnchor_part (a : Access) : (d.askAnchor a).part = d.part := rfl
@[simp] theorem Device.askAnchor_prst (a : Access) : (d.askAnchor a).prst = d.prst := rfl
@[simp] theorem Device.askAnchor_pwrwarn (a : Access) : (d.askAnchor a).pwrwarn = d.pwrwarn := rfl
@[simp] theorem Device.askAnchor_host (a : Access) : (d.askAnchor a).host = d.host := rfl
@[simp] theorem Device.askAnchor_scope (a : Access) : (d.askAnchor a).scope = d.scope := rfl
@[simp] theorem Device.askAnchor_regions (a : Access) : (d.askAnchor a).regions = d.regions := rfl
@[simp] theorem Device.askAnchor_claims (a : Access) : (d.askAnchor a).claims = d.claims := rfl
@[simp] theorem Device.askAnchor_journal (a : Access) : (d.askAnchor a).journal = d.journal := rfl
@[simp] theorem Device.askAnchor_anchor (a : Access) : (d.askAnchor a).anchor = d.anchor := rfl
@[simp] theorem Device.askAnchor_rollback (a : Access) : (d.askAnchor a).rollback = d.rollback := rfl
@[simp] theorem Device.askAnchor_recovery (a : Access) : (d.askAnchor a).recovery = d.recovery := rfl
@[simp] theorem Device.askAnchor_array (a : Access) : (d.askAnchor a).array =
    { d.array with anchorReq := some a } := rfl
@[simp] theorem Device.askAnchor_link (a : Access) : (d.askAnchor a).link = d.link := rfl
@[simp] theorem Device.askAnchor_alerts (a : Access) : (d.askAnchor a).alerts = d.alerts := rfl
@[simp] theorem Device.askAnchor_counters (a : Access) : (d.askAnchor a).counters = d.counters := rfl
@[simp] theorem Device.askAnchor_choice (a : Access) : (d.askAnchor a).choice = d.choice := rfl

@[simp] theorem Device.askJournal_part (a : Access) : (d.askJournal a).part = d.part := rfl
@[simp] theorem Device.askJournal_prst (a : Access) : (d.askJournal a).prst = d.prst := rfl
@[simp] theorem Device.askJournal_pwrwarn (a : Access) : (d.askJournal a).pwrwarn = d.pwrwarn := rfl
@[simp] theorem Device.askJournal_host (a : Access) : (d.askJournal a).host = d.host := rfl
@[simp] theorem Device.askJournal_scope (a : Access) : (d.askJournal a).scope = d.scope := rfl
@[simp] theorem Device.askJournal_regions (a : Access) : (d.askJournal a).regions = d.regions := rfl
@[simp] theorem Device.askJournal_claims (a : Access) : (d.askJournal a).claims = d.claims := rfl
@[simp] theorem Device.askJournal_journal (a : Access) : (d.askJournal a).journal = d.journal := rfl
@[simp] theorem Device.askJournal_anchor (a : Access) : (d.askJournal a).anchor = d.anchor := rfl
@[simp] theorem Device.askJournal_rollback (a : Access) : (d.askJournal a).rollback = d.rollback := rfl
@[simp] theorem Device.askJournal_recovery (a : Access) : (d.askJournal a).recovery = d.recovery := rfl
@[simp] theorem Device.askJournal_array (a : Access) : (d.askJournal a).array =
    { d.array with journalReq := some a } := rfl
@[simp] theorem Device.askJournal_link (a : Access) : (d.askJournal a).link = d.link := rfl
@[simp] theorem Device.askJournal_alerts (a : Access) : (d.askJournal a).alerts = d.alerts := rfl
@[simp] theorem Device.askJournal_counters (a : Access) : (d.askJournal a).counters = d.counters := rfl
@[simp] theorem Device.askJournal_choice (a : Access) : (d.askJournal a).choice = d.choice := rfl

@[simp] theorem Device.askRollback_part (a : Access) : (d.askRollback a).part = d.part := rfl
@[simp] theorem Device.askRollback_prst (a : Access) : (d.askRollback a).prst = d.prst := rfl
@[simp] theorem Device.askRollback_pwrwarn (a : Access) : (d.askRollback a).pwrwarn = d.pwrwarn := rfl
@[simp] theorem Device.askRollback_host (a : Access) : (d.askRollback a).host = d.host := rfl
@[simp] theorem Device.askRollback_scope (a : Access) : (d.askRollback a).scope = d.scope := rfl
@[simp] theorem Device.askRollback_regions (a : Access) : (d.askRollback a).regions = d.regions := rfl
@[simp] theorem Device.askRollback_claims (a : Access) : (d.askRollback a).claims = d.claims := rfl
@[simp] theorem Device.askRollback_journal (a : Access) : (d.askRollback a).journal = d.journal := rfl
@[simp] theorem Device.askRollback_anchor (a : Access) : (d.askRollback a).anchor = d.anchor := rfl
@[simp] theorem Device.askRollback_rollback (a : Access) : (d.askRollback a).rollback = d.rollback := rfl
@[simp] theorem Device.askRollback_recovery (a : Access) : (d.askRollback a).recovery = d.recovery := rfl
@[simp] theorem Device.askRollback_array (a : Access) : (d.askRollback a).array =
    { d.array with rollbackReq := some a } := rfl
@[simp] theorem Device.askRollback_link (a : Access) : (d.askRollback a).link = d.link := rfl
@[simp] theorem Device.askRollback_alerts (a : Access) : (d.askRollback a).alerts = d.alerts := rfl
@[simp] theorem Device.askRollback_counters (a : Access) : (d.askRollback a).counters = d.counters := rfl
@[simp] theorem Device.askRollback_choice (a : Access) : (d.askRollback a).choice = d.choice := rfl

@[simp] theorem Device.askRecovery_part (a : Access) : (d.askRecovery a).part = d.part := rfl
@[simp] theorem Device.askRecovery_prst (a : Access) : (d.askRecovery a).prst = d.prst := rfl
@[simp] theorem Device.askRecovery_pwrwarn (a : Access) : (d.askRecovery a).pwrwarn = d.pwrwarn := rfl
@[simp] theorem Device.askRecovery_host (a : Access) : (d.askRecovery a).host = d.host := rfl
@[simp] theorem Device.askRecovery_scope (a : Access) : (d.askRecovery a).scope = d.scope := rfl
@[simp] theorem Device.askRecovery_regions (a : Access) : (d.askRecovery a).regions = d.regions := rfl
@[simp] theorem Device.askRecovery_claims (a : Access) : (d.askRecovery a).claims = d.claims := rfl
@[simp] theorem Device.askRecovery_journal (a : Access) : (d.askRecovery a).journal = d.journal := rfl
@[simp] theorem Device.askRecovery_anchor (a : Access) : (d.askRecovery a).anchor = d.anchor := rfl
@[simp] theorem Device.askRecovery_rollback (a : Access) : (d.askRecovery a).rollback = d.rollback := rfl
@[simp] theorem Device.askRecovery_recovery (a : Access) : (d.askRecovery a).recovery = d.recovery := rfl
@[simp] theorem Device.askRecovery_array (a : Access) : (d.askRecovery a).array =
    { d.array with recoveryReq := some a } := rfl
@[simp] theorem Device.askRecovery_link (a : Access) : (d.askRecovery a).link = d.link := rfl
@[simp] theorem Device.askRecovery_alerts (a : Access) : (d.askRecovery a).alerts = d.alerts := rfl
@[simp] theorem Device.askRecovery_counters (a : Access) : (d.askRecovery a).counters = d.counters := rfl
@[simp] theorem Device.askRecovery_choice (a : Access) : (d.askRecovery a).choice = d.choice := rfl

@[simp] theorem Device.endAccess_part : (d.endAccess).part = d.part := rfl
@[simp] theorem Device.endAccess_prst : (d.endAccess).prst = d.prst := rfl
@[simp] theorem Device.endAccess_pwrwarn : (d.endAccess).pwrwarn = d.pwrwarn := rfl
@[simp] theorem Device.endAccess_host : (d.endAccess).host = d.host := rfl
@[simp] theorem Device.endAccess_scope : (d.endAccess).scope = d.scope := rfl
@[simp] theorem Device.endAccess_regions : (d.endAccess).regions = d.regions := rfl
@[simp] theorem Device.endAccess_claims : (d.endAccess).claims = d.claims := rfl
@[simp] theorem Device.endAccess_journal : (d.endAccess).journal = d.journal := rfl
@[simp] theorem Device.endAccess_anchor : (d.endAccess).anchor = d.anchor := rfl
@[simp] theorem Device.endAccess_rollback : (d.endAccess).rollback = d.rollback := rfl
@[simp] theorem Device.endAccess_recovery : (d.endAccess).recovery = d.recovery := rfl
@[simp] theorem Device.endAccess_array : (d.endAccess).array = { d.array with outstanding := none } := rfl
@[simp] theorem Device.endAccess_link : (d.endAccess).link = d.link := rfl
@[simp] theorem Device.endAccess_alerts : (d.endAccess).alerts = d.alerts := rfl
@[simp] theorem Device.endAccess_counters : (d.endAccess).counters = d.counters := rfl
@[simp] theorem Device.endAccess_choice : (d.endAccess).choice = d.choice := rfl

@[simp] theorem Device.enqueue_part (i : Item) : (d.enqueue i).part = d.part := rfl
@[simp] theorem Device.enqueue_prst (i : Item) : (d.enqueue i).prst = d.prst := rfl
@[simp] theorem Device.enqueue_pwrwarn (i : Item) : (d.enqueue i).pwrwarn = d.pwrwarn := rfl
@[simp] theorem Device.enqueue_host (i : Item) : (d.enqueue i).host = d.host := rfl
@[simp] theorem Device.enqueue_scope (i : Item) : (d.enqueue i).scope = d.scope := rfl
@[simp] theorem Device.enqueue_regions (i : Item) : (d.enqueue i).regions = d.regions := rfl
@[simp] theorem Device.enqueue_claims (i : Item) : (d.enqueue i).claims = d.claims := rfl
@[simp] theorem Device.enqueue_journal (i : Item) : (d.enqueue i).journal =
    { d.journal with queue := d.journal.queue ++ [i] } := rfl
@[simp] theorem Device.enqueue_anchor (i : Item) : (d.enqueue i).anchor = d.anchor := rfl
@[simp] theorem Device.enqueue_rollback (i : Item) : (d.enqueue i).rollback = d.rollback := rfl
@[simp] theorem Device.enqueue_recovery (i : Item) : (d.enqueue i).recovery = d.recovery := rfl
@[simp] theorem Device.enqueue_array (i : Item) : (d.enqueue i).array = d.array := rfl
@[simp] theorem Device.enqueue_link (i : Item) : (d.enqueue i).link = d.link := rfl
@[simp] theorem Device.enqueue_alerts (i : Item) : (d.enqueue i).alerts = d.alerts := rfl
@[simp] theorem Device.enqueue_counters (i : Item) : (d.enqueue i).counters = d.counters := rfl
@[simp] theorem Device.enqueue_choice (i : Item) : (d.enqueue i).choice = d.choice := rfl

@[simp] theorem Device.onAnchor_part (f : AnchorUnit → AnchorUnit) : (d.onAnchor f).part = d.part := rfl
@[simp] theorem Device.onAnchor_prst (f : AnchorUnit → AnchorUnit) : (d.onAnchor f).prst = d.prst := rfl
@[simp] theorem Device.onAnchor_pwrwarn (f : AnchorUnit → AnchorUnit) : (d.onAnchor f).pwrwarn = d.pwrwarn := rfl
@[simp] theorem Device.onAnchor_host (f : AnchorUnit → AnchorUnit) : (d.onAnchor f).host = d.host := rfl
@[simp] theorem Device.onAnchor_scope (f : AnchorUnit → AnchorUnit) : (d.onAnchor f).scope = d.scope := rfl
@[simp] theorem Device.onAnchor_regions (f : AnchorUnit → AnchorUnit) : (d.onAnchor f).regions = d.regions := rfl
@[simp] theorem Device.onAnchor_claims (f : AnchorUnit → AnchorUnit) : (d.onAnchor f).claims = d.claims := rfl
@[simp] theorem Device.onAnchor_journal (f : AnchorUnit → AnchorUnit) : (d.onAnchor f).journal = d.journal := rfl
@[simp] theorem Device.onAnchor_anchor (f : AnchorUnit → AnchorUnit) : (d.onAnchor f).anchor = f d.anchor := rfl
@[simp] theorem Device.onAnchor_rollback (f : AnchorUnit → AnchorUnit) : (d.onAnchor f).rollback = d.rollback := rfl
@[simp] theorem Device.onAnchor_recovery (f : AnchorUnit → AnchorUnit) : (d.onAnchor f).recovery = d.recovery := rfl
@[simp] theorem Device.onAnchor_array (f : AnchorUnit → AnchorUnit) : (d.onAnchor f).array = d.array := rfl
@[simp] theorem Device.onAnchor_link (f : AnchorUnit → AnchorUnit) : (d.onAnchor f).link = d.link := rfl
@[simp] theorem Device.onAnchor_alerts (f : AnchorUnit → AnchorUnit) : (d.onAnchor f).alerts = d.alerts := rfl
@[simp] theorem Device.onAnchor_counters (f : AnchorUnit → AnchorUnit) : (d.onAnchor f).counters = d.counters := rfl
@[simp] theorem Device.onAnchor_choice (f : AnchorUnit → AnchorUnit) : (d.onAnchor f).choice = d.choice := rfl

@[simp] theorem Device.onRecovery_part (f : RecoveryEngine → RecoveryEngine) : (d.onRecovery f).part = d.part := rfl
@[simp] theorem Device.onRecovery_prst (f : RecoveryEngine → RecoveryEngine) : (d.onRecovery f).prst = d.prst := rfl
@[simp] theorem Device.onRecovery_pwrwarn (f : RecoveryEngine → RecoveryEngine) : (d.onRecovery f).pwrwarn =
    d.pwrwarn := rfl
@[simp] theorem Device.onRecovery_host (f : RecoveryEngine → RecoveryEngine) : (d.onRecovery f).host = d.host := rfl
@[simp] theorem Device.onRecovery_scope (f : RecoveryEngine → RecoveryEngine) : (d.onRecovery f).scope =
    d.scope := rfl
@[simp] theorem Device.onRecovery_regions (f : RecoveryEngine → RecoveryEngine) : (d.onRecovery f).regions =
    d.regions := rfl
@[simp] theorem Device.onRecovery_claims (f : RecoveryEngine → RecoveryEngine) : (d.onRecovery f).claims =
    d.claims := rfl
@[simp] theorem Device.onRecovery_journal (f : RecoveryEngine → RecoveryEngine) : (d.onRecovery f).journal =
    d.journal := rfl
@[simp] theorem Device.onRecovery_anchor (f : RecoveryEngine → RecoveryEngine) : (d.onRecovery f).anchor =
    d.anchor := rfl
@[simp] theorem Device.onRecovery_rollback (f : RecoveryEngine → RecoveryEngine) : (d.onRecovery f).rollback =
    d.rollback := rfl
@[simp] theorem Device.onRecovery_recovery (f : RecoveryEngine → RecoveryEngine) : (d.onRecovery f).recovery =
    f d.recovery := rfl
@[simp] theorem Device.onRecovery_array (f : RecoveryEngine → RecoveryEngine) : (d.onRecovery f).array =
    d.array := rfl
@[simp] theorem Device.onRecovery_link (f : RecoveryEngine → RecoveryEngine) : (d.onRecovery f).link = d.link := rfl
@[simp] theorem Device.onRecovery_alerts (f : RecoveryEngine → RecoveryEngine) : (d.onRecovery f).alerts =
    d.alerts := rfl
@[simp] theorem Device.onRecovery_counters (f : RecoveryEngine → RecoveryEngine) : (d.onRecovery f).counters =
    d.counters := rfl
@[simp] theorem Device.onRecovery_choice (f : RecoveryEngine → RecoveryEngine) : (d.onRecovery f).choice =
    d.choice := rfl

@[simp] theorem Device.setJob_part (j : Job) : (d.setJob j).part = d.part := rfl
@[simp] theorem Device.setJob_prst (j : Job) : (d.setJob j).prst = d.prst := rfl
@[simp] theorem Device.setJob_pwrwarn (j : Job) : (d.setJob j).pwrwarn = d.pwrwarn := rfl
@[simp] theorem Device.setJob_host (j : Job) : (d.setJob j).host = d.host := rfl
@[simp] theorem Device.setJob_scope (j : Job) : (d.setJob j).scope = d.scope := rfl
@[simp] theorem Device.setJob_regions (j : Job) : (d.setJob j).regions = d.regions := rfl
@[simp] theorem Device.setJob_claims (j : Job) : (d.setJob j).claims = d.claims := rfl
@[simp] theorem Device.setJob_journal (j : Job) : (d.setJob j).journal = d.journal := rfl
@[simp] theorem Device.setJob_anchor (j : Job) : (d.setJob j).anchor = d.anchor := rfl
@[simp] theorem Device.setJob_rollback (j : Job) : (d.setJob j).rollback =
    { d.rollback with jobs := d.rollback.jobs.map fun x => if x.port = j.port then j else x } := rfl
@[simp] theorem Device.setJob_recovery (j : Job) : (d.setJob j).recovery = d.recovery := rfl
@[simp] theorem Device.setJob_array (j : Job) : (d.setJob j).array = d.array := rfl
@[simp] theorem Device.setJob_link (j : Job) : (d.setJob j).link = d.link := rfl
@[simp] theorem Device.setJob_alerts (j : Job) : (d.setJob j).alerts = d.alerts := rfl
@[simp] theorem Device.setJob_counters (j : Job) : (d.setJob j).counters = d.counters := rfl
@[simp] theorem Device.setJob_choice (j : Job) : (d.setJob j).choice = d.choice := rfl

@[simp] theorem Device.dropJob_part (j : Job) : (d.dropJob j).part = d.part := rfl
@[simp] theorem Device.dropJob_prst (j : Job) : (d.dropJob j).prst = d.prst := rfl
@[simp] theorem Device.dropJob_pwrwarn (j : Job) : (d.dropJob j).pwrwarn = d.pwrwarn := rfl
@[simp] theorem Device.dropJob_host (j : Job) : (d.dropJob j).host = d.host := rfl
@[simp] theorem Device.dropJob_scope (j : Job) : (d.dropJob j).scope = d.scope := rfl
@[simp] theorem Device.dropJob_regions (j : Job) : (d.dropJob j).regions = d.regions := rfl
@[simp] theorem Device.dropJob_claims (j : Job) : (d.dropJob j).claims = d.claims := rfl
@[simp] theorem Device.dropJob_journal (j : Job) : (d.dropJob j).journal = d.journal := rfl
@[simp] theorem Device.dropJob_anchor (j : Job) : (d.dropJob j).anchor = d.anchor := rfl
@[simp] theorem Device.dropJob_rollback (j : Job) : (d.dropJob j).rollback =
    { jobs := d.rollback.jobs.filter fun x => x.port != j.port,
      hand := if j.phase = .waiting then d.rollback.hand else none } := rfl
@[simp] theorem Device.dropJob_recovery (j : Job) : (d.dropJob j).recovery = d.recovery := rfl
@[simp] theorem Device.dropJob_array (j : Job) : (d.dropJob j).array = d.array := rfl
@[simp] theorem Device.dropJob_link (j : Job) : (d.dropJob j).link = d.link := rfl
@[simp] theorem Device.dropJob_alerts (j : Job) : (d.dropJob j).alerts = d.alerts := rfl
@[simp] theorem Device.dropJob_counters (j : Job) : (d.dropJob j).counters = d.counters := rfl
@[simp] theorem Device.dropJob_choice (j : Job) : (d.dropJob j).choice = d.choice := rfl

@[simp] theorem Device.reply_part (c : ReplyCode) (b : List Byte) : (d.reply c b).part = d.part := rfl
@[simp] theorem Device.reply_prst (c : ReplyCode) (b : List Byte) : (d.reply c b).prst = d.prst := rfl
@[simp] theorem Device.reply_pwrwarn (c : ReplyCode) (b : List Byte) : (d.reply c b).pwrwarn = d.pwrwarn := rfl
@[simp] theorem Device.reply_host (c : ReplyCode) (b : List Byte) : (d.reply c b).host = d.host := rfl
@[simp] theorem Device.reply_scope (c : ReplyCode) (b : List Byte) : (d.reply c b).scope = d.scope := rfl
@[simp] theorem Device.reply_regions (c : ReplyCode) (b : List Byte) : (d.reply c b).regions = d.regions := rfl
@[simp] theorem Device.reply_claims (c : ReplyCode) (b : List Byte) : (d.reply c b).claims = d.claims := rfl
@[simp] theorem Device.reply_journal (c : ReplyCode) (b : List Byte) : (d.reply c b).journal = d.journal := rfl
@[simp] theorem Device.reply_anchor (c : ReplyCode) (b : List Byte) : (d.reply c b).anchor = d.anchor := rfl
@[simp] theorem Device.reply_rollback (c : ReplyCode) (b : List Byte) : (d.reply c b).rollback = d.rollback := rfl
@[simp] theorem Device.reply_recovery (c : ReplyCode) (b : List Byte) : (d.reply c b).recovery = d.recovery := rfl
@[simp] theorem Device.reply_array (c : ReplyCode) (b : List Byte) : (d.reply c b).array = d.array := rfl
@[simp] theorem Device.reply_link (c : ReplyCode) (b : List Byte) : (d.reply c b).link =
    { d.link with slot := .ready c b, ended := d.link.ended || d.link.isWorking } := rfl
@[simp] theorem Device.reply_alerts (c : ReplyCode) (b : List Byte) : (d.reply c b).alerts = d.alerts := rfl
@[simp] theorem Device.reply_counters (c : ReplyCode) (b : List Byte) : (d.reply c b).counters = d.counters := rfl
@[simp] theorem Device.reply_choice (c : ReplyCode) (b : List Byte) : (d.reply c b).choice = d.choice := rfl

@[simp] theorem Device.work_part (w : Work) : (d.work w).part = d.part := rfl
@[simp] theorem Device.work_prst (w : Work) : (d.work w).prst = d.prst := rfl
@[simp] theorem Device.work_pwrwarn (w : Work) : (d.work w).pwrwarn = d.pwrwarn := rfl
@[simp] theorem Device.work_host (w : Work) : (d.work w).host = d.host := rfl
@[simp] theorem Device.work_scope (w : Work) : (d.work w).scope = d.scope := rfl
@[simp] theorem Device.work_regions (w : Work) : (d.work w).regions = d.regions := rfl
@[simp] theorem Device.work_claims (w : Work) : (d.work w).claims = d.claims := rfl
@[simp] theorem Device.work_journal (w : Work) : (d.work w).journal = d.journal := rfl
@[simp] theorem Device.work_anchor (w : Work) : (d.work w).anchor = d.anchor := rfl
@[simp] theorem Device.work_rollback (w : Work) : (d.work w).rollback = d.rollback := rfl
@[simp] theorem Device.work_recovery (w : Work) : (d.work w).recovery = d.recovery := rfl
@[simp] theorem Device.work_array (w : Work) : (d.work w).array = d.array := rfl
@[simp] theorem Device.work_link (w : Work) : (d.work w).link = { d.link with slot := .working w } := rfl
@[simp] theorem Device.work_alerts (w : Work) : (d.work w).alerts = d.alerts := rfl
@[simp] theorem Device.work_counters (w : Work) : (d.work w).counters = d.counters := rfl
@[simp] theorem Device.work_choice (w : Work) : (d.work w).choice = d.choice := rfl

@[simp] theorem Device.endFrame_part (b : List Byte) : (d.endFrame b).part = d.part := rfl
@[simp] theorem Device.endFrame_prst (b : List Byte) : (d.endFrame b).prst = d.prst := rfl
@[simp] theorem Device.endFrame_pwrwarn (b : List Byte) : (d.endFrame b).pwrwarn = d.pwrwarn := rfl
@[simp] theorem Device.endFrame_host (b : List Byte) : (d.endFrame b).host = d.host := rfl
@[simp] theorem Device.endFrame_scope (b : List Byte) : (d.endFrame b).scope = d.scope := rfl
@[simp] theorem Device.endFrame_regions (b : List Byte) : (d.endFrame b).regions = d.regions := rfl
@[simp] theorem Device.endFrame_claims (b : List Byte) : (d.endFrame b).claims = d.claims := rfl
@[simp] theorem Device.endFrame_journal (b : List Byte) : (d.endFrame b).journal = d.journal := rfl
@[simp] theorem Device.endFrame_anchor (b : List Byte) : (d.endFrame b).anchor = d.anchor := rfl
@[simp] theorem Device.endFrame_rollback (b : List Byte) : (d.endFrame b).rollback = d.rollback := rfl
@[simp] theorem Device.endFrame_recovery (b : List Byte) : (d.endFrame b).recovery = d.recovery := rfl
@[simp] theorem Device.endFrame_array (b : List Byte) : (d.endFrame b).array = d.array := rfl
@[simp] theorem Device.endFrame_link (b : List Byte) : (d.endFrame b).link =
    { d.link with sent := b, ended := false } := rfl
@[simp] theorem Device.endFrame_alerts (b : List Byte) : (d.endFrame b).alerts = d.alerts := rfl
@[simp] theorem Device.endFrame_counters (b : List Byte) : (d.endFrame b).counters = d.counters := rfl
@[simp] theorem Device.endFrame_choice (b : List Byte) : (d.endFrame b).choice = d.choice := rfl

end Fields

end Sys2Proof.Machine
end

