-- ==== Sys2Proof/Laws/Queue.lean ====
section
/-!
SUPPORT. What the operations on a port's queue and path do: the places a request is found at, answering, beginning, and
eligibility (R150).
-/
namespace Sys2Proof.Machine

theorem begunStage_eq_isBegun (e : Entry) : begunStage e.stage = isBegun e := by
  obtain ⟨_, s, _, _⟩ := e; cases s <;> rfl

theorem HostPort.begun_eq (h : HostPort) : h.begun = (h.queue.filter isBegun).length := by
  unfold HostPort.begun
  rw [List.countP_eq_length_filter]
  exact congrArg (fun f => (h.queue.filter f).length) (funext begunStage_eq_isBegun)

theorem HostPort.begun_eq_zero_iff (h : HostPort) : h.begun = 0 ↔ ∀ e ∈ h.queue, isBegun e = false := by
  rw [HostPort.begun_eq, List.length_eq_zero_iff, List.filter_eq_nil_iff]; simp

/-- The request finishAt works on is answered; with none at the place nothing happens. -/
theorem HostPort.finishAt_eq {h : HostPort} {i : Nat} {e : Entry} (he : h.queue[i]? = some e) (code : RespCode)
    (data : LineData) : h.finishAt i code data = answered h i e code data := by
  simp [HostPort.finishAt, answered, he]

theorem HostPort.finishAt_none {h : HostPort} {i : Nat} (he : h.queue[i]? = none) (code : RespCode) (data : LineData) :
    h.finishAt i code data = h := by
  simp [HostPort.finishAt, he]

theorem HostPort.stageAt_eq {h : HostPort} {i : Nat} {e : Entry} (he : h.queue[i]? = some e) (stage : Stage) :
    h.stageAt i stage = reached h i e stage e.level := by
  simp [HostPort.stageAt, reached, List.modify_eq_set_getElem?, he]

theorem Device.answerAt_eq {d : Device} {p : Port} {i : Nat} {e : Entry} (he : (d.host.get p).queue[i]? = some e)
    (code : RespCode) : d.answerAt p i code = withPort d p (answered (d.host.get p) i e code 0#512) := by
  simp [Device.answerAt, Device.onHost, withPort, HostPort.finishAt_eq he]

theorem Device.beginAt_eq {d : Device} {p : Port} {i : Nat} {e : Entry} (he : (d.host.get p).queue[i]? = some e)
    (stage : Stage) :
    d.beginAt p i stage = withPort d p (reached (d.host.get p) i e stage (d.scope.get p).stack.length) := by
  simp [Device.beginAt, Device.onHost, withPort, reached, Device.depth, List.modify_eq_set_getElem?, he]

/-- What lineIndex finds: the first begun and unfinished READ or WRITE of the line. -/
theorem HostPort.lineIndex_spec {h : HostPort} {line i : Nat} (hi : h.lineIndex line = some i) :
    ∃ e, h.queue[i]? = some e ∧ isBegun e = true ∧ reqKind e.req ≠ .mark ∧ reqLine e.req = line := by
  obtain ⟨hl, he, -⟩ := List.findIdx?_eq_some_iff_getElem.1 hi
  refine ⟨h.queue[i], List.getElem?_eq_getElem hl, ?_⟩
  simpa [begunStage_eq_isBegun, and_assoc] using he

/-- What markIndex finds: the first begun and unfinished MARK. -/
theorem HostPort.markIndex_spec {h : HostPort} {i : Nat} (hi : h.markIndex = some i) :
    ∃ e, h.queue[i]? = some e ∧ isBegun e = true ∧ reqKind e.req = .mark := by
  obtain ⟨hl, he, -⟩ := List.findIdx?_eq_some_iff_getElem.1 hi
  refine ⟨h.queue[i], List.getElem?_eq_getElem hl, ?_⟩
  simpa [begunStage_eq_isBegun] using he

theorem HostPort.markIndex_eq_none_iff (h : HostPort) :
    h.markIndex = none ↔ ∀ e ∈ h.queue, isBegun e = true → reqKind e.req ≠ .mark := by
  unfold HostPort.markIndex
  rw [List.findIdx?_eq_none_iff]
  simp [begunStage_eq_isBegun]

theorem Device.answerLine_eq {d : Device} {p : Port} {line i : Nat} {e : Entry}
    (hi : (d.host.get p).lineIndex line = some i) (he : (d.host.get p).queue[i]? = some e) (code : RespCode)
    (data : LineData) : d.answerLine p line code data = withPort d p (answered (d.host.get p) i e code data) := by
  simp [Device.answerLine, Device.onHost, withPort, hi, HostPort.finishAt_eq he]

theorem Device.answerMark_eq {d : Device} {p : Port} {i : Nat} {e : Entry} (hi : (d.host.get p).markIndex = some i)
    (he : (d.host.get p).queue[i]? = some e) (code : RespCode) :
    d.answerMark p code = withPort d p (answered (d.host.get p) i e code 0#512) := by
  simp [Device.answerMark, Device.onHost, withPort, hi, HostPort.finishAt_eq he]

theorem Device.stageLine_eq {d : Device} {p : Port} {line i : Nat} {e : Entry}
    (hi : (d.host.get p).lineIndex line = some i) (he : (d.host.get p).queue[i]? = some e) (stage : Stage) :
    d.stageLine p line stage = withPort d p (reached (d.host.get p) i e stage e.level) := by
  simp [Device.stageLine, Device.onHost, withPort, hi, HostPort.stageAt_eq he]

theorem HostPort.haltQueue_eq (h : HostPort) : h.haltQueue = haltedQueue h := by
  have answers : ∀ q : List Entry,
      ((q.filter fun e => e.stage == .waiting).map fun e => (⟨e.req.tag, .halted, 0#512, false⟩ : Response)) =
        q.filterMap fun e => if e.stage = .waiting then some ⟨e.req.tag, .halted, 0#512, false⟩ else none := by
    intro q
    induction q with
    | nil => rfl
    | cons e q ih => by_cases hs : e.stage = .waiting <;> simp [hs, ih]
  simp only [HostPort.haltQueue, haltedQueue, answers]

/-! ## Eligibility -/

/-- A test over the requests before place i, place by place. -/
theorem any_take_eq_false_iff (q : List Entry) (i : Nat) (test : Entry → Bool) :
    (q.take i).any test = false ↔ ∀ j x, j < i → q[j]? = some x → test x = false := by
  rw [List.any_eq_false]
  constructor
  · intro h j x hj hx
    simpa using h x (List.mem_iff_getElem?.2 ⟨j, by simp [hj, hx]⟩)
  · intro h x hx
    obtain ⟨j, hj⟩ := List.mem_iff_getElem?.1 hx
    rw [List.getElem?_take] at hj
    split at hj
    · rename_i hlt; simp [h j x hlt hj]
    · cases hj

/-- The test of a place is the four conditions of R150. -/
theorem eligible_iff (q : List Entry) (i : Nat) : eligible q i = true ↔ ∃ e, EligibleAt q i e := by
  unfold eligible EligibleAt
  cases hq : q[i]? with
  | none => simp
  | some e =>
    have hc : q.countP (fun x => begunStage x.stage) = (q.filter isBegun).length := by
      rw [List.countP_eq_length_filter]
      exact congrArg (fun f => (q.filter f).length) (funext begunStage_eq_isBegun)
    have hz : (q.filter isBegun).length = 0 ↔ ∀ x ∈ q, isBegun x = false := by
      rw [List.length_eq_zero_iff, List.filter_eq_nil_iff]; simp
    simp only [Option.some.injEq, exists_eq_left', hc, Bool.and_eq_true, beq_iff_eq, decide_eq_true_eq, Config.window,
      Bool.not_eq_true', any_take_eq_false_iff, and_assoc]
    refine and_congr_right fun _ => and_congr_right fun _ => and_congr ?_ ?_
    · refine forall₄_congr fun j x _ _ => ?_
      by_cases hm : reqKind x.req = .mark <;> simp [hm, unfinished]
    · by_cases hm : reqKind e.req = .mark
      · simp only [hm, if_true, Bool.and_eq_true, Bool.not_eq_true', any_take_eq_false_iff, beq_iff_eq, hz, ne_eq,
          not_true_eq_false, IsEmpty.forall_iff, true_and, forall_const, unfinished, bne_eq_false_iff_eq]
      · simp only [hm, if_false, any_take_eq_false_iff, Bool.not_eq_true', ne_eq, not_false_eq_true, forall_const,
          IsEmpty.forall_iff, and_true]
        refine forall₄_congr fun j x _ _ => ?_
        by_cases h1 : reqKind x.req = .mark <;> by_cases h2 : reqLine x.req = reqLine e.req <;>
          simp [h1, h2, unfinished]

/-- What the choice of the oldest eligible request answers. -/
theorem oldestEligible_spec (q : List Entry) (i : Nat) :
    oldestEligible q = some i ↔ eligible q i = true ∧ ∀ j, j < i → eligible q j = false := by
  unfold oldestEligible
  rw [List.find?_range_eq_some]
  constructor
  · rintro ⟨h, -, hj⟩; exact ⟨h, fun j hji => by simpa using hj j hji⟩
  · rintro ⟨h, hj⟩
    refine ⟨h, ?_, fun j hji => by simp [hj j hji]⟩
    obtain ⟨e, he⟩ := (eligible_iff q i).1 h
    exact List.mem_range.2 (List.getElem?_eq_some_iff.1 he.1).1

/-- The request that begins next under R150 is the one nextBegin answers. -/
theorem Device.nextBegin_eq {d : Device} {p : Port} {i : Nat} {e : Entry} (hb : Begins d p)
    (ho : oldestEligible (d.host.get p).queue = some i) (he : (d.host.get p).queue[i]? = some e)
    (wanted : Request → Bool) : d.nextBegin p wanted = if wanted e.req then some (i, e, none) else none := by
  obtain ⟨h1, h2, h3, h4, h5⟩ := hb
  unfold Device.nextBegin Device.beginRow
  rcases h2 with h2 | h2 | h2 <;> simp [h1, h2, h3, h4, h5, ho, he]

end Sys2Proof.Machine
end

