-- ==== Sys2Proof/Laws/Claims.lean ====
section
/-!
SUPPORT. What the claim table's search answers (R23, R37, R38), the checks built on it, and quiet (R74).
-/
namespace Sys2Proof.Machine

/-- The first index that meets a test. -/
theorem find?_finRange_eq_some_iff {n : Nat} (test : Fin n → Bool) (i : Fin n) :
    (List.finRange n).find? test = some i ↔ test i = true ∧ ∀ j, j < i → test j = false := by
  induction n with
  | zero => exact i.elim0
  | succ n ih =>
    rw [List.finRange_succ, List.find?_cons]
    cases h0 : test 0 with
    | true =>
      simp only [Option.some.injEq]
      constructor
      · rintro rfl; exact ⟨h0, fun j hj => absurd hj (Fin.not_lt_zero j)⟩
      · rintro ⟨-, hj⟩
        by_contra hne
        have := hj 0 (Fin.pos_of_ne_zero (Ne.symm hne))
        rw [h0] at this; cases this
    | false =>
      simp only [List.find?_map]
      cases i using Fin.cases with
      | zero => simp [h0]
      | succ i =>
        rw [Option.map_eq_some_iff]
        constructor
        · rintro ⟨k, hk, hki⟩
          obtain rfl := Fin.succ_injective n hki
          obtain ⟨h1, h2⟩ := (ih (test ∘ Fin.succ) _).1 hk
          refine ⟨h1, fun j hj => ?_⟩
          cases j using Fin.cases with
          | zero => exact h0
          | succ j => exact h2 j (Fin.succ_lt_succ_iff.1 hj)
        · rintro ⟨h1, h2⟩
          exact ⟨i, (ih (test ∘ Fin.succ) i).2 ⟨h1, fun j hj => h2 j.succ (Fin.succ_lt_succ_iff.2 hj)⟩, rfl⟩

/-- What a search of the table answers: the lowest slot from the start on whose entry meets the test. -/
theorem ClaimTable.find_eq_some_iff (t : ClaimTable) (start : Nat) (test : Claim → Bool) (i : Fin 256) :
    t.find start test = some i ↔ start ≤ i.val ∧ (∃ c, t.slots[i] = some c ∧ test c = true) ∧
      ∀ j : Fin 256, j < i → start ≤ j.val → ∀ c, t.slots[j] = some c → test c = false := by
  unfold ClaimTable.find
  rw [find?_finRange_eq_some_iff]
  simp only [Bool.and_eq_true, decide_eq_true_eq, Bool.and_eq_false_iff, decide_eq_false_iff_not]
  constructor
  · rintro ⟨⟨hs, ht⟩, hj⟩
    refine ⟨hs, ?_, fun j hji hsj c hc => ?_⟩
    · cases hc : t.slots[i] with
      | none => simp [hc] at ht
      | some c => exact ⟨c, rfl, by simpa [hc] using ht⟩
    · have := hj j hji
      simpa [hsj, hc] using this
  · rintro ⟨hs, ⟨c, hc, ht⟩, hj⟩
    refine ⟨⟨hs, by simp [hc, ht]⟩, fun j hji => ?_⟩
    by_cases hsj : start ≤ j.val
    · cases hc : t.slots[j] with
      | none => simp
      | some x => simp [hj j hji hsj x hc]
    · simp [hsj]

theorem ClaimTable.find_eq_none_iff (t : ClaimTable) (start : Nat) (test : Claim → Bool) :
    t.find start test = none ↔ ∀ j : Fin 256, start ≤ j.val → ∀ c, t.slots[j] = some c → test c = false := by
  unfold ClaimTable.find
  rw [List.find?_eq_none]
  constructor
  · intro h j hs c hc
    have := h j (List.mem_finRange j)
    simpa [hs, hc] using this
  · intro h j _
    by_cases hs : start ≤ j.val
    · cases hc : t.slots[j] with
      | none => simp
      | some c => simp [h j hs c hc]
    · simp [hs]

theorem ClaimTable.slotOf_eq_some_iff (t : ClaimTable) (line : Nat) (i : Fin 256) :
    t.slotOf line = some i ↔ ∃ c, ClaimedAt t line i c := by
  unfold ClaimTable.slotOf ClaimedAt
  rw [ClaimTable.find_eq_some_iff]
  simp only [Nat.zero_le, true_and, forall_const, beq_iff_eq, beq_eq_false_iff_ne, ne_eq]
  constructor
  · rintro ⟨⟨c, hc, hl⟩, hj⟩; exact ⟨c, hc, hl, hj⟩
  · rintro ⟨c, hc, hl, hj⟩; exact ⟨⟨c, hc, hl⟩, hj⟩

theorem ClaimTable.slotOf_eq_none_iff (t : ClaimTable) (line : Nat) : t.slotOf line = none ↔ Unclaimed t line := by
  unfold ClaimTable.slotOf Unclaimed
  rw [ClaimTable.find_eq_none_iff]
  simp

theorem ClaimTable.entryOf_eq_some_iff (t : ClaimTable) (line : Nat) (c : Claim) :
    t.entryOf line = some c ↔ ∃ i, ClaimedAt t line i c := by
  unfold ClaimTable.entryOf
  cases h : t.slotOf line with
  | none =>
    have hn := (t.slotOf_eq_none_iff line).1 h
    simp only [reduceCtorEq, false_iff, not_exists]
    exact fun i hc => hn i c hc.1 hc.2.1
  | some i =>
    obtain ⟨x, hx⟩ := (t.slotOf_eq_some_iff line i).1 h
    constructor
    · intro hc
      have : x = c := Option.some.inj (hx.1.symm.trans hc)
      exact ⟨i, this ▸ hx⟩
    · rintro ⟨j, hj⟩
      have hij : some i = some j := h.symm.trans ((t.slotOf_eq_some_iff line j).2 ⟨c, hj⟩)
      cases hij
      exact hj.1

theorem ClaimTable.entryOf_eq_none_iff (t : ClaimTable) (line : Nat) : t.entryOf line = none ↔ Unclaimed t line := by
  rw [← ClaimTable.slotOf_eq_none_iff]
  unfold ClaimTable.entryOf
  cases h : t.slotOf line with
  | none => simp
  | some i =>
    obtain ⟨x, hx⟩ := (t.slotOf_eq_some_iff line i).1 h
    simp [hx.1]

theorem ClaimTable.freeSlot_eq_some_iff (t : ClaimTable) (i : Fin 256) :
    t.freeSlot = some i ↔ t.slots[i] = none ∧ ∀ j : Fin 256, j < i → t.slots[j] ≠ none := by
  unfold ClaimTable.freeSlot
  rw [find?_finRange_eq_some_iff]
  simp [Option.isSome_iff_ne_none]

theorem ClaimTable.freeSlot_eq_none_iff (t : ClaimTable) : t.freeSlot = none ↔ ∀ j : Fin 256, t.slots[j] ≠ none := by
  unfold ClaimTable.freeSlot
  rw [List.find?_eq_none]
  simp

theorem ClaimTable.update_eq {t : ClaimTable} {i : Fin 256} {c : Claim} (h : t.slots[i] = some c)
    (f : Claim → Option Claim) : t.update i f = ⟨t.slots.set i (f c)⟩ := by
  unfold ClaimTable.update ClaimTable.put; rw [h]

/-- The write path's checks on a line (R67, R68, R91). -/
theorem Device.outOfRange_iff (d : Device) (line : Nat) : d.outOfRange line = true ↔ BeyondArray d line := by
  unfold Device.outOfRange BeyondArray
  cases d.regions.lineCount <;> simp

theorem Journal.inArea_iff (d : Device) (line : Nat) : d.journal.inArea line = true ↔ InJournal d line := by
  simp [Journal.inArea, InJournal]

theorem Device.hazard_iff (d : Device) (line : Nat) : d.hazard line = true ↔ Hazard d line := by
  unfold Device.hazard Hazard ClaimTable.pendingOn
  rw [Bool.or_eq_true]
  refine or_congr ?_ ?_
  · cases h : d.claims.entryOf line with
    | none =>
      have hn := (d.claims.entryOf_eq_none_iff line).1 h
      simp only [Bool.false_eq_true, false_iff, not_exists]
      rintro i c ⟨hc, -⟩
      exact hn i c hc.1 hc.2.1
    | some c =>
      obtain ⟨i, hi⟩ := (d.claims.entryOf_eq_some_iff line c).1 h
      constructor
      · exact fun hr => ⟨i, c, hi, hr⟩
      · rintro ⟨j, x, hx, hr⟩
        have : some c = some x := h.symm.trans ((d.claims.entryOf_eq_some_iff line x).2 ⟨j, hx⟩)
        cases this
        exact hr
  · cases d.rollback.hand <;> simp

theorem ClaimTable.claimedByOther_iff (t : ClaimTable) (p : Port) (line : Nat) :
    t.claimedByOther p line = true ↔ ∃ i c, ClaimedAt t line i c ∧ c.port ≠ p := by
  unfold ClaimTable.claimedByOther
  cases h : t.entryOf line with
  | none =>
    have hn := (t.entryOf_eq_none_iff line).1 h
    simp only [Bool.false_eq_true, false_iff, not_exists]
    rintro i c ⟨hc, -⟩
    exact hn i c hc.1 hc.2.1
  | some c =>
    obtain ⟨i, hi⟩ := (t.entryOf_eq_some_iff line c).1 h
    constructor
    · exact fun hp => ⟨i, c, hi, by simpa using hp⟩
    · rintro ⟨j, x, hx, hp⟩
      have : some c = some x := h.symm.trans ((t.entryOf_eq_some_iff line x).2 ⟨j, hx⟩)
      cases this
      simpa using hp

/-- Quiet as the model tests it is R74's. -/
theorem Device.quiet_iff (d : Device) : d.quiet = true ↔ Quiet d := by
  have hc : (d.claims.slots.toList.all Option.isNone) = true ↔ ∀ i : Fin 256, d.claims.slots[i] = none := by
    rw [List.all_eq_true]
    constructor
    · intro h i
      have := h d.claims.slots[i] (by simp)
      simpa using this
    · intro h x hx
      obtain ⟨n, hn, rfl⟩ := List.mem_iff_getElem.1 hx
      have := h ⟨n, by simpa using hn⟩
      simpa using this
  unfold Device.quiet Quiet
  simp only [Bool.and_eq_true, decide_eq_true_eq, hc, Device.depth, List.length_eq_zero_iff, Option.isNone_iff_eq_none,
    HostPort.markIndex_eq_none_iff, List.isEmpty_iff, and_assoc, PerPort.get_p0, PerPort.get_p1]

end Sys2Proof.Machine
end

