-- ==== Sys2Proof/Laws/PerInstr.lean ====
section
/-!
SUPPORT. A law of every command as syntax, one lemma per constructor: the command code that its frame carries names it
(Table 13-6).
-/
namespace Sys2Proof.Laws

/-- The code in a command's frame names that command; a row without a frame has none. -/
def CodeNames.Statement (i : Instr) : Prop :=
  ∀ (code : Byte) (f : Frame), i.wellFormed = true → frameOf i = some (code, f) → commandOf code f = i

theorem CodeNames.powerOn : CodeNames.Statement .powerOn := by
  intro code f _ h
  cases h

theorem CodeNames.prstAssert : CodeNames.Statement .prstAssert := by
  intro code f _ h
  cases h

theorem CodeNames.prstRelease : CodeNames.Statement .prstRelease := by
  intro code f _ h
  cases h

theorem CodeNames.pwrwarnAssert : CodeNames.Statement .pwrwarnAssert := by
  intro code f _ h
  cases h

theorem CodeNames.pwrwarnRelease : CodeNames.Statement .pwrwarnRelease := by
  intro code f _ h
  cases h

theorem CodeNames.hrstAssert (port : Port) : CodeNames.Statement (.hrstAssert port) := by
  intro code f _ h
  cases h

theorem CodeNames.hrstRelease (port : Port) : CodeNames.Statement (.hrstRelease port) := by
  intro code f _ h
  cases h

theorem CodeNames.requestTaken (port : Port) (request : Request) : CodeNames.Statement (.requestTaken port request) := by
  intro code f _ h
  cases h

theorem CodeNames.responseTaken (port : Port) : CodeNames.Statement (.responseTaken port) := by
  intro code f _ h
  cases h

theorem CodeNames.readBegin (port : Port) : CodeNames.Statement (.readBegin port) := by
  intro code f _ h
  cases h

theorem CodeNames.readHazardClear (port : Port) (line : BitVec 26) : CodeNames.Statement (.readHazardClear port line) := by
  intro code f _ h
  cases h

theorem CodeNames.writeBegin (port : Port) : CodeNames.Statement (.writeBegin port) := by
  intro code f _ h
  cases h

theorem CodeNames.openMark (port : Port) : CodeNames.Statement (.openMark port) := by
  intro code f _ h
  cases h

theorem CodeNames.closeMark (port : Port) : CodeNames.Statement (.closeMark port) := by
  intro code f _ h
  cases h

theorem CodeNames.abandonMark (port : Port) : CodeNames.Statement (.abandonMark port) := by
  intro code f _ h
  cases h

theorem CodeNames.accessGrant : CodeNames.Statement .accessGrant := by
  intro code f _ h
  cases h

theorem CodeNames.arrayAnswer (number : BitVec 4) (ok : Bool) (data : LineData) : CodeNames.Statement (.arrayAnswer number ok data) := by
  intro code f _ h
  cases h

theorem CodeNames.arrayResponseTimeout : CodeNames.Statement .arrayResponseTimeout := by
  intro code f _ h
  cases h

theorem CodeNames.takeAppendItem : CodeNames.Statement .takeAppendItem := by
  intro code f _ h
  cases h

theorem CodeNames.heldItemRetake : CodeNames.Statement .heldItemRetake := by
  intro code f _ h
  cases h

theorem CodeNames.scopeAgeExpiry (port : Port) : CodeNames.Statement (.scopeAgeExpiry port) := by
  intro code f _ h
  cases h

theorem CodeNames.forcedAbandonWaitEnd (port : Port) : CodeNames.Statement (.forcedAbandonWaitEnd port) := by
  intro code f _ h
  cases h

theorem CodeNames.rollbackJobTake : CodeNames.Statement .rollbackJobTake := by
  intro code f _ h
  cases h

theorem CodeNames.anchorUpdateBegin : CodeNames.Statement .anchorUpdateBegin := by
  intro code f _ h
  cases h

theorem CodeNames.safeEntry : CodeNames.Statement .safeEntry := by
  intro code f _ h
  cases h

theorem CodeNames.formatCopyWrite : CodeNames.Statement .formatCopyWrite := by
  intro code f _ h
  cases h

theorem CodeNames.frameWhileWorking (clocked : Nat) : CodeNames.Statement (.frameWhileWorking clocked) := by
  intro code f _ h
  cases h

theorem CodeNames.frameCutShort (frame : CutFrame) : CodeNames.Statement (.frameCutShort frame) := by
  intro code f _ h
  cases h

theorem CodeNames.badCheck (frame : Frame) : CodeNames.Statement (.badCheck frame) := by
  intro code f _ h
  cases h

/-- A code that is not of the part is read as the row UNKNOWN. -/
theorem CodeNames.unknown (code : Byte) (frame : Frame) : CodeNames.Statement (.unknown code frame) := by
  intro c f hw h
  cases h
  have known : code ∉ commandCodes := by
    intro hc
    simp [Instr.wellFormed, hc] at hw
  simp only [commandCodes, List.mem_cons, List.not_mem_nil, or_false, not_or] at known
  obtain ⟨h1, h2, h3, h4, h5, h6, h7, h8, h9, h10, h11, h12, h13, h14, h15, h16, h17, h18, h19⟩ := known
  simp only [commandOf, h1, h2, h3, h4, h5, h6, h7, h8, h9, h10, h11, h12, h13, h14, h15, h16, h17, h18, h19, if_false]

theorem CodeNames.fetchReply (frame : Frame) : CodeNames.Statement (.fetchReply frame) := by
  intro code f _ h
  cases h
  rfl

theorem CodeNames.getState (frame : Frame) : CodeNames.Statement (.getState frame) := by
  intro code f _ h
  cases h
  rfl

theorem CodeNames.getScope (frame : Frame) : CodeNames.Statement (.getScope frame) := by
  intro code f _ h
  cases h
  rfl

theorem CodeNames.getClaims (frame : Frame) : CodeNames.Statement (.getClaims frame) := by
  intro code f _ h
  cases h
  rfl

theorem CodeNames.getRegion (frame : Frame) : CodeNames.Statement (.getRegion frame) := by
  intro code f _ h
  cases h
  rfl

theorem CodeNames.getJournal (frame : Frame) : CodeNames.Statement (.getJournal frame) := by
  intro code f _ h
  cases h
  rfl

theorem CodeNames.getAlerts (frame : Frame) : CodeNames.Statement (.getAlerts frame) := by
  intro code f _ h
  cases h
  rfl

theorem CodeNames.getCounters (frame : Frame) : CodeNames.Statement (.getCounters frame) := by
  intro code f _ h
  cases h
  rfl

theorem CodeNames.ackAlerts (frame : Frame) : CodeNames.Statement (.ackAlerts frame) := by
  intro code f _ h
  cases h
  rfl

theorem CodeNames.setAlertMask (frame : Frame) : CodeNames.Statement (.setAlertMask frame) := by
  intro code f _ h
  cases h
  rfl

theorem CodeNames.clearCounters (frame : Frame) : CodeNames.Statement (.clearCounters frame) := by
  intro code f _ h
  cases h
  rfl

theorem CodeNames.setRegion (frame : Frame) : CodeNames.Statement (.setRegion frame) := by
  intro code f _ h
  cases h
  rfl

theorem CodeNames.setDefaultMode (frame : Frame) : CodeNames.Statement (.setDefaultMode frame) := by
  intro code f _ h
  cases h
  rfl

theorem CodeNames.setTimer (frame : Frame) : CodeNames.Statement (.setTimer frame) := by
  intro code f _ h
  cases h
  rfl

theorem CodeNames.setArrayTimeout (frame : Frame) : CodeNames.Statement (.setArrayTimeout frame) := by
  intro code f _ h
  cases h
  rfl

theorem CodeNames.syncAnchor (frame : Frame) : CodeNames.Statement (.syncAnchor frame) := by
  intro code f _ h
  cases h
  rfl

theorem CodeNames.formatJournal (frame : Frame) : CodeNames.Statement (.formatJournal frame) := by
  intro code f _ h
  cases h
  rfl

theorem CodeNames.forceAbandon (frame : Frame) : CodeNames.Statement (.forceAbandon frame) := by
  intro code f _ h
  cases h
  rfl

theorem CodeNames.resetPart (frame : Frame) : CodeNames.Statement (.resetPart frame) := by
  intro code f _ h
  cases h
  rfl

theorem CodeNames.markKindNone (port : Port) : CodeNames.Statement (.markKindNone port) := by
  intro code f _ h
  cases h

end Sys2Proof.Laws
end

