-- ==== Sys2Proof/Laws/Shared.lean ====
section
/-!
SUPPORT. What the operations that several meanings share do, in the terms of Sys2Proof/Safety.lean: counters, the claim
table's changes, the end of an access, the writer's checks, forced abandons and wedging, the anchor unit's numbers, and
taking a command frame.
-/
namespace Sys2Proof.Machine

/-! ## Counters, accesses -/

theorem bump_eq_counted (c : BitVec 32) : bump c = counted c := rfl

/-- The access of a forwarded write or a target write (R81, R85), on the fields of the request. -/
theorem writeAccess_eq (r : Request) :
    writeAccess r =
      if r.startWord = 0#4 ∧ r.countField = 15#4 ∧ r.enables = 0xFFFFFFFFFFFFFFFF#64 then .writeFull (reqLine r) r.data
      else .writePart (reqLine r) r.startWord.toNat (r.countField.toNat + 1) r.enables r.data := by
  have count : r.countField.toNat + 1 = 16 ↔ r.countField = 15#4 := by
    constructor
    · intro h
      apply BitVec.eq_of_toNat_eq
      simp
      omega
    · rintro h
      simp [h]
  unfold writeAccess reqCount
  simp only [count]
  rfl

/-- The answer of the outstanding access goes to its requester, the port being free (R155, R157). -/
theorem arrayAnswer_ok {d : Device} {o : Outstanding} (h : d.array.outstanding = some o) (q : List Instr) (data : LineData) :
    exec (.arrayAnswer o.number true data) ⟨q, d⟩ = .next ⟨q, (portFree d).deliver o (some data)⟩ := by
  simp [exec, execArrayAnswer, Device.arrayAnswer, h, Device.endAccess, portFree]

theorem arrayAnswer_error {d : Device} {o : Outstanding} (h : d.array.outstanding = some o) (q : List Instr)
    (data : LineData) :
    exec (.arrayAnswer o.number false data) ⟨q, d⟩ = .next ⟨q, (portFree d).countArrayError.deliver o none⟩ := by
  simp [exec, execArrayAnswer, Device.arrayAnswer, h, Device.endAccess, portFree]

theorem arrayResponseTimeout_some {d : Device} {o : Outstanding} (h : d.array.outstanding = some o) (q : List Instr) :
    exec .arrayResponseTimeout ⟨q, d⟩ = .next ⟨q, (portFree d).countArrayTimeout.deliver o none⟩ := by
  simp [exec, execArrayResponseTimeout, Device.arrayTimeout, h, Device.endAccess, portFree]

theorem arrayResponseTimeout_none {d : Device} (h : d.array.outstanding = none) (q : List Instr) :
    exec .arrayResponseTimeout ⟨q, d⟩ = .next ⟨q, d⟩ := by
  simp [exec, execArrayResponseTimeout, Device.arrayTimeout, h]

/-- The begun READ or WRITE of a line is answered MEDIA, with the latch. -/
theorem Device.hostMedia_eq {d : Device} {p : Port} {line i : Nat} {e : Entry}
    (hi : (d.host.get p).lineIndex line = some i) (he : (d.host.get p).queue[i]? = some e) :
    d.hostMedia p line = { withPort d p (answered (d.host.get p) i e .media 0#512) with
      alerts := { d.alerts with latches := d.alerts.latches ||| 0x040#10 } } := by
  unfold Device.hostMedia
  rw [Device.answerLine_eq (d := d.latch .media) hi he]
  rfl

/-! ## Claim table -/

theorem ClaimTable.claimedByOther_eq_false_iff (t : ClaimTable) (p : Port) (line : Nat) :
    t.claimedByOther p line = false ↔ ∀ s c, ClaimedAt t line s c → c.port = p := by
  rw [← Bool.not_eq_true, ClaimTable.claimedByOther_iff]
  constructor
  · intro h s c hc
    by_contra hp
    exact h ⟨s, c, hc, hp⟩
  · rintro h ⟨s, c, hc, hp⟩
    exact hp (h s c hc)

theorem ClaimTable.undo_eq {t : ClaimTable} {line : Nat} {s : Fin 256} {c : Claim} (h : ClaimedAt t line s c) :
    t.undo line = ⟨t.slots.set s (if c.images = noImages then none else some { c with recording := false })⟩ := by
  unfold ClaimTable.undo
  rw [(t.slotOf_eq_some_iff line s).2 ⟨c, h⟩]
  simp only [ClaimTable.update_eq h.1]

theorem ClaimTable.undo_of_unclaimed {t : ClaimTable} {line : Nat} (h : Unclaimed t line) : t.undo line = t := by
  unfold ClaimTable.undo
  rw [(t.slotOf_eq_none_iff line).2 h]

theorem ClaimTable.setImage_eq {t : ClaimTable} {line : Nat} {s : Fin 256} {c : Claim} (h : ClaimedAt t line s c)
    (level position : Nat) :
    t.setImage line level position =
      ⟨t.slots.set s (some { c with images := putImage c.images level (some position), recording := false })⟩ := by
  unfold ClaimTable.setImage
  rw [(t.slotOf_eq_some_iff line s).2 ⟨c, h⟩]
  simp only [ClaimTable.update_eq h.1]

/-! ## Journal writer -/

theorem Device.lagCheck_eq (d : Device) : d.lagCheck = lagChecked d := by
  unfold Device.lagCheck lagChecked Device.askUpdate Journal.cells
  by_cases h : d.anchor.writerReq = .none <;> simp [h]

theorem Device.jlowCheck_eq (d : Device) : d.jlowCheck = jlowChecked d := rfl

/-- All the lag check can change is the writer's request for an update. -/
theorem lagChecked_spec (d : Device) : ∃ w, lagChecked d = { d with anchor := { d.anchor with writerReq := w } } := by
  unfold lagChecked
  split
  · exact ⟨_, rfl⟩
  · exact ⟨d.anchor.writerReq, rfl⟩

/-- All the JLOW check can change is the latches. -/
theorem jlowChecked_spec (d : Device) : ∃ x, jlowChecked d = { d with alerts := { d.alerts with latches := x } } := by
  unfold jlowChecked
  split
  · exact ⟨_, rfl⟩
  · exact ⟨d.alerts.latches, rfl⟩

/-- The last write of an append is answered: the writer's own change, its checks, and word to the requester (R50). -/
theorem appendEnds_eq {d : Device} {n : BitVec 4} {o : Outstanding} {a : Append} (h : AppendEnds d n o a) (q : List Instr)
    (data : LineData) :
    exec (.arrayAnswer n true data) ⟨q, d⟩ = .next ⟨q,
      (lagChecked (jlowChecked { portFree d with journal := d.journal.afterAppend a })).tellDurable a.item a.position⟩ := by
  obtain ⟨ho, rfl, hr, ha, hrest⟩ := h
  have ha' : (portFree d).journal.append = some a := ha
  rw [arrayAnswer_ok ho, Device.deliver, hr]
  simp only [Device.journalAnswer, ha', hrest, Device.appendDurable, Device.lagCheck_eq, Device.jlowCheck_eq]
  rfl

/-- The writer's own change for a record that starts no scope tree. -/
theorem Journal.afterAppend_eq {j : Journal} {a : Append} (h : a.item.record ≠ .openScope) :
    j.afterAppend a = appendedTo j a (j.last.set a.item.port (some a.position)) j.treeStart := by
  unfold Journal.afterAppend appendedTo
  split <;> cases hr : a.item.record <;> simp_all [itemLength, Journal.cells, BitVec.add_assoc]

/-- Releasing the hold changes nothing but the hold. -/
theorem Journal.releaseHold_spec (j : Journal) (told : Bool) : ∃ h, j.releaseHold told = { j with held := h } := by
  unfold Journal.releaseHold
  split
  · exact ⟨j.held, rfl⟩
  · split
    · exact ⟨_, rfl⟩
    · exact ⟨j.held, rfl⟩
  · exact ⟨_, rfl⟩
  · exact ⟨j.held, rfl⟩

/-! ## Scope unit -/

/-- A forced abandon is taken, or nothing changes (R18). -/
theorem Device.takeForced_spec (d : Device) (p : Port) (cause : AbandonCause) :
    d.takeForced p cause = d ∨
    (d.part = .running ∧ (d.scope.get p).state ≠ .wedged ∧ (d.scope.get p).pendingAbandon = none ∧
      d.takeForced p cause = { d with
        scope := d.scope.set p { d.scope.get p with pendingAbandon := some cause, running := false } }) := by
  unfold Device.takeForced
  split
  · rename_i h
    exact .inr ⟨h.1, h.2.1, h.2.2.1, rfl⟩
  · exact .inl rfl

/-- A port is settled, or nothing changes (R14). -/
theorem Device.settle_spec (d : Device) (p : Port) :
    d.settle p = d ∨ d.settle p = { d with
      scope := d.scope.set p { d.scope.get p with state := .active, resetNoted := false } } := by
  unfold Device.settle
  split
  · exact .inr rfl
  · exact .inl rfl

/-- A port becomes WEDGED (R13). -/
theorem Device.wedge_eq (d : Device) (p : Port) :
    d.wedge p = { d with
      scope := d.scope.set p { d.scope.get p with state := .wedged, running := false, resetNoted := false }
      alerts := { d.alerts with latches := d.alerts.latches ||| (1#10 <<< latchBit (.wedged p)) } } := rfl

/-! ## Anchor unit -/

theorem AnchorUnit.nextGeneration_eq (a : AnchorUnit) :
    a.nextGeneration = if a.newest = none then 1#32 else a.generation + 1#32 := by
  unfold AnchorUnit.nextGeneration
  cases a.newest <;> rfl

theorem AnchorUnit.target_eq (a : AnchorUnit) : a.target = if a.newest = some .a then .b else .a := by
  unfold AnchorUnit.target
  cases a.newest with
  | none => rfl
  | some c => cases c <;> rfl

theorem copyBase_eq (c : Copy) : copyBase c = if c = .a then 0 else 2 := by cases c <;> rfl

theorem coverReq_eq (r : UpdateReq) : coverReq r = if r = .none then .none else .covered := by cases r <;> rfl

/-! ## Management link -/

/-- The slot is not WORKING. -/
theorem Device.isWorking_eq_false {d : Device} (h : SlotFree d) : d.link.isWorking = false := by
  unfold LinkController.isWorking
  unfold SlotFree at h
  cases hs : d.link.slot <;> simp_all

/-- The state byte of a frame that can end now is that of its selection (R161). -/
theorem Device.sampled_eq {d : Device} {selected : Selection} (h : FrameEnds d selected) :
    d.link.sampled selected = some (sampledByte d selected) := by
  rcases h with rfl | ⟨ended, rfl | rfl⟩
  · simp only [LinkController.sampled, LinkController.stateByte, sampledByte]
    cases d.link.slot <;> rfl
  · simp [LinkController.sampled, sampledByte, ended]
  · simp [LinkController.sampled, sampledByte, ended]

/-- A frame cut by a reset is not taken, and one that no work's end makes possible does not end (R161). -/
theorem Device.sampled_eq_none {d : Device} {selected : Selection} (h : ¬FrameEnds d selected) :
    d.link.sampled selected = none := by
  unfold FrameEnds at h
  cases selected <;> simp_all [LinkController.sampled]

theorem Device.onFrame_eq {d : Device} {selected : Selection} (h : FrameEnds d selected) (run : Byte → Device) :
    d.onFrame selected run = run (sampledByte d selected) := by
  unfold Device.onFrame
  rw [Device.sampled_eq h]

theorem Device.onFrame_eq_self {d : Device} {selected : Selection} (h : ¬FrameEnds d selected) (run : Byte → Device) :
    d.onFrame selected run = d := by
  unfold Device.onFrame
  rw [Device.sampled_eq_none h]

/-- A taken command that is answered at once has its reply in the slot, and no work of it ends (R162). -/
theorem Device.tookFrame_reply {d : Device} (h : SlotFree d) (f : Frame) (code : ReplyCode) (payload : List Byte) :
    (tookFrame d f d.link.slot).reply code payload = tookFrame d f (.ready code payload) := by
  have free : (tookFrame d f d.link.slot).link.isWorking = false := Device.isWorking_eq_false h
  unfold Device.reply
  rw [free]
  rfl

/-- A command frame that comes while the slot is not WORKING is taken, and run or refused WRONGSTATE (R163, R164). -/
theorem Device.command_eq {d : Device} {f : Frame} (h : FrameTaken d f) (admitted : PartState → Bool)
    (run : Device → Device) :
    d.command f admitted run =
      if admitted d.part then run (tookFrame d f d.link.slot) else tookFrame d f (.ready .wrongState []) := by
  obtain ⟨free, ends⟩ := h
  rw [← Device.tookFrame_reply free, Device.command, Device.onFrame_eq ends]
  refine (if_neg ?_).trans rfl
  exact Bool.eq_false_iff.1 (Device.isWorking_eq_false free)

/-- The work of the command in the slot ends (R162). -/
theorem Device.reply_eq_toldOf {d : Device} {w : Work} (h : d.link.slot = .working w) (code : ReplyCode)
    (payload : List Byte) : d.reply code payload = { d with link := toldOf d.link w code payload } := by
  simp [Device.reply, toldOf, LinkController.isWorking, h]

theorem modeOf_modeNum (m : Mode) : modeOf (BitVec.ofNat 8 (modeNum m)).toNat = some m := by cases m <;> rfl

theorem portOf_num (p : Port) : portOf (BitVec.ofNat 8 p.num) = some p := by cases p <;> rfl

theorem actionOf_actionNum (a : TimerAction) : actionOf (BitVec.ofNat 8 (actionNum a)) = some a := by cases a <;> rfl

/-! ## The scope age timer -/

/-- SET TIMER with the timer running (R17). -/
theorem ScopePort.setTimer_running {s : ScopePort} (h : s.running = true) (action : TimerAction) (limit : BitVec 16) :
    s.setTimer action limit =
      { s with limit := limit, action := action, scopeLimit := limit, scopeAction := action, expired := false } := by
  simp [ScopePort.setTimer, h]

/-- SET TIMER with the timer stopped: of the open scope only a limit of 0 is told (R17). -/
theorem ScopePort.setTimer_stopped {s : ScopePort} (h : s.running = false) (action : TimerAction) (limit : BitVec 16) :
    s.setTimer action limit =
      { s with limit := limit, action := action, scopeLimit := if limit = 0#16 then 0#16 else s.scopeLimit } := by
  by_cases z : limit = 0#16 <;> simp [ScopePort.setTimer, h, z]

end Sys2Proof.Machine
end

