-- ==== Sys2Proof/Tests/Slice0.lean ====
section
/-!
SUPPORT. Tests. The expected results come from the manual: the check values and tables of 13_formats.md, the worked
example of chapter 4 and the worked sequences of chapters 2, 3, 5, 6, 10 and 12. After them, for each statement of
Certificates/Slice0/Obligations.lean that has hypotheses, a witness that meets them, clause by clause.
-/
namespace Sys2Proof.Tests

-- One theorem at a time: each kernel evaluation would otherwise hold a thread of its own.
set_option Elab.async false

open Sys2Proof Sys2Proof.Machine

/-! ## Small states -/

/-- The region table of the worked example (Table 4-5). -/
def regions : RegionTable :=
  ⟨#v[⟨8192, 8255, .guard, true, false⟩, ⟨8192, 16383, .journal, true, false⟩, ⟨16384, 32767, .journal, true, true⟩,
    ⟨12288, 13311, .pass, true, false⟩, ⟨0, 0, .pass, false, false⟩, ⟨32768, 65535, .journal, false, false⟩,
    ⟨0, 0, .pass, false, false⟩, ⟨0, 0, .pass, false, false⟩], .pass, some 1048576⟩

/-- A port at depth 1. -/
def scope (serial : BitVec 16) (cell : Nat) : ScopePort :=
  { ScopePort.cleared with stack := [⟨serial, cell⟩], serialCounter := serial + 1#16 }

/-- The start of Table 5-7: both ports at depth 1, RUNNING, the claim table empty. -/
def part : Device :=
  { Device.cleared with
    part := .running
    regions := regions
    scope := ⟨scope 7#16 300, scope 12#16 310⟩
    journal := { Journal.cleared with
      base := 4096, lines := 4096, lowWater := 40, epoch := 1#16, tail := 300, tailSeq := 9020#32, head := 320,
      nextSeq := 9040#32, treeStart := ⟨some ⟨300, 9020#32⟩, some ⟨310, 9030#32⟩⟩, last := ⟨some 300, some 310⟩ }
    anchor := { AnchorUnit.cleared with newest := some .a, generation := 5#32, otherValid := true } }

/-- A single-word request of a line. -/
def request (kind : BitVec 2) (tag : BitVec 3) (line : BitVec 26) : Request :=
  { kind := kind, tag := tag, line := line, startWord := 0#4, countField := 0#4, enables := 0xF#64, data := 0#512,
    marker := 0#2, level := 0#3 }

/-- A READ, a WRITE and a MARK. -/
def read (line : BitVec 26) : Request := request 0#2 0#3 line
def write (line : BitVec 26) : Request := request 1#2 0#3 line
def mark (marker : BitVec 2) (level : BitVec 3) : Request := { request 2#2 0#3 0#26 with marker := marker, level := level }

/-- A request in the queue, at a stage. -/
def entry (r : Request) (stage : Stage) : Entry := ⟨r, stage, if stage = .waiting then 0 else 1, false⟩

/-- Port 0 with a queue. -/
def queued (d : Device) (q : List Entry) : Device := { d with host := ⟨⟨false, q, []⟩, d.host.p1⟩ }

/-- The part after a command. -/
def after (i : Instr) (d : Device) : Device :=
  match exec i ⟨[], d⟩ with
  | .next s => s.dev
  | .fault _ => d
  | .refused _ => d

/-- One entry in slot 0. -/
def claimed (d : Device) (c : Claim) : Device := { d with claims := ⟨(Vector.replicate 256 none).set 0 (some c)⟩ }

/-- An access outstanding. -/
def waitingFor (d : Device) (who : Requester) (a : Access) : Device :=
  { d with array := { d.array with outstanding := some ⟨a, who, 3#4, 50#8⟩, number := 3#4 } }

/-- A frame. -/
def frame (payload : List Byte) : Frame := ⟨.current, 3#4, payload, 0, false⟩

/-- A FETCH REPLY in which bytes are clocked after the check. -/
def fetch (selected : Selection) (extra : Nat) (partByte : Bool) : Frame := ⟨selected, 3#4, [], extra, partByte⟩

/-! ## Formats (13_formats.md) -/

def digits : List Byte := [0x31#8, 0x32#8, 0x33#8, 0x34#8, 0x35#8, 0x36#8, 0x37#8, 0x38#8, 0x39#8]

theorem test_crc32_check_value : crc32 digits = 0xCBF43926#32 := by decide +kernel

theorem test_crc8_check_value : crc8 digits = 0xF4#8 := by decide +kernel

theorem test_length_byte : lengthByte 3#4 12 = 0x33#8 := by decide

/-- SET ALERT MASK, exchange 5, mask 200 hex: code, length byte, payload and check are read back. -/
theorem test_decode_set_alert_mask :
    decodeFrame .current [0x11#8, 0x51#8, 0x02#8, 0x00#8, 0x00#8, 0x00#8, crc8 [0x11#8, 0x51#8, 2#8, 0#8, 0#8, 0#8]] false =
      some (.setAlertMask ⟨.current, 5#4, [2#8, 0#8, 0#8, 0#8], 0, false⟩) := by decide +kernel

theorem test_decode_unknown_code :
    decodeFrame .current [0x08#8, 0x00#8, crc8 [8#8, 0#8]] false = some (.unknown 8#8 ⟨.current, 0#4, [], 0, false⟩) := by
  decide +kernel

/-- A deselection inside a byte: GET STATE is cut short, FETCH REPLY is served (R163, R165). -/
theorem test_decode_part_byte :
    decodeFrame .current [0x01#8, 0x30#8, crc8 [1#8, 0x30#8]] true = some (.frameCutShort ⟨.current, 3⟩) ∧
    decodeFrame .current [0x0F#8, 0x30#8, crc8 [0x0F#8, 0x30#8]] true = some (.fetchReply (fetch .current 0 true)) := by
  decide +kernel

/-- Bytes 0 to 6 and 8, 16, 20 of a CLOSE COMMITTED header (Table 13-1, Table 13-2). -/
theorem test_header_bytes :
    let h := encodeHeader ((part.journal).headerOf ⟨.marker, .p1, 1, 0x0C0D#16, .close .committed⟩)
    [0, 1, 2, 3, 4, 5, 6, 7, 8, 9, 12, 16, 20].map (fun k => (h.extractLsb' (8 * k) 8).toNat) =
      [3, 1, 1, 2, 1, 0, 0x0D, 0x0C, 0x50, 0x23, 310 % 256, 0, 1] := by decide +kernel

/-- Bytes of an anchor copy (Table 13-3): marker, generation, epoch, timeout, mode, then the array lines at byte 12. -/
theorem test_copy_bytes :
    let v : Setup := ⟨2#16, 50#8, .journal, 0x00100000, 4096, 4096, 300, 9020#32, 40, ⟨0#16, 0#16⟩, ⟨.alert, .abandon⟩,
      regions.entries⟩
    [0, 1, 2, 3, 4, 8, 10, 11, 12, 14, 17, 24, 38, 42, 44, 45, 52].map
        (fun k => ((encodeCopyBody 5#32 v).extractLsb' (8 * k) 8).toNat) =
      [0x40, 0x4A, 0x57, 0x4B, 5, 2, 50, 1, 0, 0x10, 0x10, 300 % 256, 0, 1, 0, 0x20, 6] := by decide +kernel

/-! ## Well-formed commands -/

theorem test_wellFormed_refuses_part_unit : (Instr.getState (frame [0#8])).wellFormed = false := by decide

theorem test_wellFormed_refuses_long_payload : (Instr.getScope (frame (List.replicate 64 0#8))).wellFormed = false := by
  decide

theorem test_wellFormed_refuses_empty_frame : (Instr.frameCutShort ⟨.current, 0⟩).wellFormed = false := by decide

theorem test_wellFormed_refuses_part_byte : (Instr.getState { frame [] with partByte := true }).wellFormed = false := by
  decide

theorem test_wellFormed_refuses_empty_frame_while_working : (Instr.frameWhileWorking 0).wellFormed = false := by decide

theorem test_wellFormed_refuses_known_code : (Instr.unknown 0x24#8 (frame [])).wellFormed = false := by decide

theorem test_wellFormed_admits_longest : (Instr.badCheck (frame (List.replicate 60 0#8))).wellFormed = true := by decide

/-! ## Requests and responses (Table 10-4) -/

/-- Step 1: the window fills with tags 0, 1, 3 and 4; then none is eligible. -/
def tableQueue (s0 s1 s3 s4 : Stage) : List Entry :=
  [entry (request 1#2 0#3 9100#26) s0, entry (request 0#2 1#3 40000#26) s1, entry (request 1#2 2#3 9100#26) .waiting,
   entry (request 1#2 3#3 40010#26) s3, entry (request 0#2 4#3 9000#26) s4,
   entry { mark 1#2 1#3 with tag := 5#3 } .waiting, entry (request 0#2 6#3 40000#26) .waiting]

theorem test_window_order :
    oldestEligible (tableQueue .waiting .waiting .waiting .waiting) = some 0 ∧
    oldestEligible (tableQueue .preRead .readAccess .waiting .waiting) = some 3 ∧
    oldestEligible (tableQueue .preRead .readAccess .plain .readAccess) = none := by decide

/-- Step 3: a window place is free and nothing begins. Step 5: with tag 0 finished, tag 2 begins. -/
theorem test_same_line_and_barrier :
    oldestEligible (tableQueue .target .finished .plain .readAccess) = none ∧
    oldestEligible (tableQueue .finished .finished .finished .finished) = some 2 := by decide

/-- Step 2: the second tag 3 is answered TAG and does not enter the queue. -/
theorem test_tag_refusal :
    let d := after (.requestTaken .p0 (request 0#2 3#3 9000#26)) (queued part (tableQueue .preRead .readAccess .plain .waiting))
    d.host.p0.queue.length = 7 ∧ d.host.p0.path = [⟨3#3, .tag, 0#512, true⟩] := by decide +kernel

/-- Step 2: taking it advances the refusal counter for TAG, the first of the fifteen. -/
theorem test_tag_response_counted :
    (after (.responseTaken .p0) { part with host := ⟨⟨false, [], [⟨3#3, .tag, 0#512, true⟩]⟩, part.host.p1⟩ }).counters.port.p0.refusals[0]
      = 1#32 := by decide +kernel

/-! ## Writes and reads (Table 4-6, Table 5-7, Table 5-8) -/

/-- The stage or the response of the one request of port 0 after it begins, at depth 1. -/
def outcome (d : Device) (r : Request) : Option Stage × Option RespCode :=
  let h := (after (beginCommand .p0 r) (queued d [entry r .waiting])).host.p0
  ((h.queue.head?).map Entry.stage, (h.path.head?).map Response.code)

/-- The part with port 0 at depth 0. -/
def depth0 : Device := { part with scope := ⟨ScopePort.cleared, part.scope.p1⟩ }

theorem test_table_4_6 :
    part.writeOutcome .p0 (write 2#26) = .refused .guarded ∧
    depth0.writeOutcome .p0 (write 6000#26) = .refused .guarded ∧
    part.writeOutcome .p0 (write 8200#26) = .refused .guarded ∧
    part.writeOutcome .p0 (write 9000#26) = .claim ∧
    depth0.writeOutcome .p0 (write 12500#26) = .refused .unscoped ∧
    regions.classify 20000 = (.journal, true) ∧
    part.writeOutcome .p0 (write 40000#26) = .forward ∧
    depth0.writeOutcome .p0 (write 1048576#26) = .refused .range := by decide +kernel

/-- Table 5-7, step 1: TAKE IMAGE allocates slot 0, PENDING without image. -/
theorem test_take_image :
    (after (.writeBegin .p0) (queued part [entry (write 9000#26) .waiting])).claims.slots[0] =
      some ⟨9000, .p0, true, noImages⟩ := by decide +kernel

/-- Table 5-7, steps 2 and 3, seen from port 0: the line is CLAIMED by the other port; a READ waits for its PENDING
entry. -/
theorem test_claimed_and_hazard :
    outcome (claimed part ⟨9000, .p1, true, noImages⟩) (write 9000#26) = (some .finished, some .claimed) ∧
    outcome (claimed part ⟨9000, .p1, true, noImages⟩) (read 9000#26) = (some .readHazard, none) ∧
    outcome (claimed part ⟨9000, .p1, false, noImages⟩) (read 9000#26) = (some .readAccess, none) := by decide +kernel

/-- Table 5-7, step 5: the pre-image is handed over as an IMAGE item of port 0, level 1, serial 7. -/
theorem test_pre_image_answered :
    (after (.arrayAnswer 3#4 true 0xAB#512)
      (waitingFor (queued part [entry (write 9000#26) .preRead]) (.host .p0) (.readLine 9000))).journal.queue =
        [⟨.write, .p0, 1, 7#16, .image 9000 0xAB#512⟩] := by decide +kernel

/-- Table 5-8, run A: the pre-image read times out; the entry is HELD as before and the write is answered MEDIA. -/
theorem test_run_a :
    let d := after .arrayResponseTimeout (waitingFor (queued (claimed part ⟨9100, .p0, true, ⟨some 250, none, none, none⟩⟩)
      [entry (write 9100#26) .preRead]) (.host .p0) (.readLine 9100))
    d.claims.slots[0] = some ⟨9100, .p0, false, ⟨some 250, none, none, none⟩⟩ ∧
    d.host.p0.path.map Response.code = [.media] := by decide +kernel

/-- A READ of word 1 returns that word alone, in its place (R89). -/
theorem test_read_words :
    readWords { read 0#26 with startWord := 1#4 } 0x333333332222222211111111#512 = 0x2222222200000000#512 := by
  decide +kernel

/-! ## Markers -/

theorem test_open_hands_over :
    (after (.openMark .p0) (queued part [entry (mark 0#2 2#3) .waiting])).journal.queue =
      [⟨.marker, .p0, 2, 8#16, .openScope⟩] := by decide +kernel

theorem test_close_level_1_stops_the_timer :
    let running : Device := { part with scope := ⟨{ scope 7#16 300 with running := true }, part.scope.p1⟩ }
    let d := after (.closeMark .p0) (queued running [entry (mark 1#2 1#3) .waiting])
    d.scope.p0.running = false ∧ d.journal.queue = [⟨.marker, .p0, 1, 7#16, .close .committed⟩] := by decide +kernel

theorem test_close_of_another_level : outcome part (mark 1#2 2#3) = (some .finished, some .level) := by decide +kernel

theorem test_abandon_queues_a_job :
    (after (.abandonMark .p0) (queued part [entry (mark 2#2 1#3) .waiting])).rollback.jobs =
      [⟨.p0, .level 1, .abandonedHost, 0, 0, .waiting, 0⟩] := by decide +kernel

theorem test_mark_of_no_kind : outcome part (mark 3#2 1#3) = (some .finished, some .level) := by decide +kernel

/-! ## Journal (Table 3-7, Table 3-8, Table 2-4) -/

/-- Table 3-7: 512 cells, head 509, anchored tail 8, tree starts 8 and 40. -/
def wrap : Journal :=
  { Journal.cleared with
    base := 4096, lines := 256, lowWater := 40, epoch := 1#16, tail := 8, tailSeq := 70000#32, head := 509,
    nextSeq := 70189#32, treeStart := ⟨some ⟨40, 70012#32⟩, some ⟨8, 70000#32⟩⟩, last := ⟨some 508, some 8⟩ }

theorem test_table_3_7 :
    wrap.liveTail = ⟨8, 70000#32⟩ ∧ wrap.freeAnchored = 11 ∧ wrap.freeLive = 11 ∧ wrap.lag = 0 := by decide

/-- Step 2: with the head at 510 an IMAGE needs a PAD of 2, 14 cells in all, of which 10 are free: held, update asked. -/
theorem test_pad_and_hold :
    let j := { wrap with head := 510, nextSeq := 70190#32, treeStart := ⟨some ⟨40, 70012#32⟩, none⟩ }
    let d := after .takeAppendItem
      { part with journal := { j with queue := [⟨.write, .p0, 2, 9#16, .image 9000 0#512⟩] } }
    j.need (.image 9000 0#512) = 14 ∧ j.freeAnchored = 10 ∧ j.freeLive = 42 ∧ d.journal.held = some .request ∧
    d.anchor.writerReq = .pending := by decide +kernel

/-- Step 1: port 1's CLOSE is one partial-line write to the second half of array line 4,350. -/
theorem test_close_write :
    ((wrap.appendWrites ⟨.marker, .p1, 1, 5#16, .close .committed⟩).map fun a => match a with
      | .writePart line start count _ _ => (line, start, count)
      | _ => (0, 0, 0)) = [(4350, 8, 8)] := by decide +kernel

/-- Step 4: PAD at cell 510 with the sequence 70,190, IMAGE at cell 0 with 70,191; the head is then 3. -/
theorem test_pad_then_image :
    let j := { wrap with head := 510, nextSeq := 70190#32, tail := 40 }
    let i : Item := ⟨.write, .p0, 2, 9#16, .image 9000 0#512⟩
    (j.appendWrites i).map accessLine = [4351, 4096, 4097] ∧ (j.headerOf i).sequence = 70191#32 ∧
    (j.afterAppend ⟨i, 2, 0, []⟩).head = 3 ∧ (j.afterAppend ⟨i, 2, 0, []⟩).nextSeq = 70192#32 := by decide +kernel

/-- Table 2-4, steps 9 and 10: images of the same line are dropped, the image of another moves down. -/
theorem test_merge :
    mergeClaim .p0 3 ⟨1, .p0, false, ⟨some 201, some 205, some 212, none⟩⟩ =
      ⟨1, .p0, false, ⟨some 201, some 205, none, none⟩⟩ ∧
    mergeClaim .p0 3 ⟨2, .p0, false, ⟨none, none, some 209, none⟩⟩ = ⟨2, .p0, false, ⟨none, some 209, none, none⟩⟩ := by
  decide

/-- Table 5-8, run B: an append write answered with an error; JFAULT and MEDIA are latched. -/
theorem test_append_write_error :
    let d := after (.arrayAnswer 3#4 false 0#512) (waitingFor { queued part [entry (write 9100#26) .append] with
      journal := { part.journal with append := some ⟨⟨.write, .p0, 1, 7#16, .image 9100 0#512⟩, 0, 320, []⟩ } }
      .journal (.writeFull 4256 0#512))
    d.journal.faulted = true ∧ d.journal.head = 320 ∧ d.alerts.latches = 0x048#10 ∧
    d.host.p0.path.map Response.code = [.journalFault] := by decide +kernel

theorem test_retake_issues :
    (after .heldItemRetake { part with journal := { part.journal with
      queue := [⟨.marker, .p0, 1, 7#16, .close .committed⟩], held := some .over } }).journal.append.map Append.position =
        some 320 := by decide +kernel

/-! ## Array port (R156, R157) -/

theorem test_grant_order :
    let waiting : ArrayPort := { ArrayPort.cleared with
      journalReq := some (.readLine 5), rollbackReq := some (.readLine 6), hostReq := ⟨[.readLine 7], [.readLine 8]⟩ }
    waiting.grant.outstanding.map (fun o => (o.access, o.requester, o.number)) = some (.readLine 5, .journal, 1#4) ∧
    ({ waiting with journalReq := none, rollbackReq := none }.grant).lastHost = .p0 := by decide

theorem test_late_response :
    (after (.arrayAnswer 4#4 true 0#512) (waitingFor part .rollback (.readLine 9))).counters.lateResponses = 1#32 := by
  decide

/-! ## Scopes, rollback, lines -/

theorem test_expiry_latches_aged1 :
    let old : ScopePort := { scope 12#16 310 with scopeLimit := 100#16, running := true, age := 100 }
    let d := after (.scopeAgeExpiry .p1) { part with scope := ⟨part.scope.p0, old⟩ }
    d.alerts.latches = 2#10 ∧ d.scope.p1.expired = true := by decide +kernel

/-- R17: a new limit leaves a stopped timer's scope alone; the failed CLOSE then runs the timer with the scope's own limit. -/
theorem test_stopped_timer_keeps_its_limit :
    let stopped : ScopePort := { scope 12#16 310 with limit := 900#16, scopeLimit := 900#16, age := 500 }
    let d : Device := { part with scope := ⟨part.scope.p0, stopped.setTimer .alert 100#16⟩ }
    d.scope.p1.limit = 100#16 ∧ (d.rerunTimer .p1).scope.p1.running = true ∧ (d.rerunTimer .p1).alerts.latches = 0#10 := by
  decide

theorem test_forced_abandon_job :
    let s := { scope 7#16 300 with pendingAbandon := some .timer }
    (after (.forcedAbandonWaitEnd .p0) { part with scope := ⟨s, part.scope.p1⟩ }).rollback.jobs =
      [⟨.p0, .all, .abandonedTimer, 0, 0, .waiting, 0⟩] := by decide +kernel

/-- Table 2-4, step 13: the job "level 2" names slot 1, restored from cells 218 to 220. -/
theorem test_job_names_its_line :
    let t : ClaimTable := ⟨((Vector.replicate 256 none).set 0
      (some ⟨100, .p0, false, ⟨some 201, none, none, none⟩⟩)).set 1 (some ⟨101, .p0, false, ⟨some 209, some 218, none, none⟩⟩)⟩
    let d := after .rollbackJobTake { part with claims := t, rollback := ⟨[⟨.p0, .level 2, .abandonedHost, 0, 0, .waiting, 0⟩], none⟩ }
    d.rollback.hand.map (fun h => (h.slot.val, h.line, h.position)) = some (1, 101, 218) ∧
    d.array.rollbackReq = some (.readLine (4096 + 109)) := by decide +kernel

theorem test_hrst_withholds :
    let d := after (.hrstAssert .p0) (queued part (tableQueue .target .finished .finished .finished))
    d.host.p0.queue.map (fun e => (e.req.tag, e.withheld)) = [(0#3, true)] ∧ d.scope.p0.state = .resetting ∧
    d.scope.p0.pendingAbandon = some .portReset := by decide +kernel

theorem test_hrst_release :
    let h : Device := { depth0 with
      host := ⟨⟨true, [], []⟩, depth0.host.p1⟩, scope := ⟨{ ScopePort.cleared with state := .resetting }, part.scope.p1⟩ }
    (after (.hrstRelease .p0) h).scope.p0.state = .active := by decide

theorem test_warning_halts_the_queue :
    let d := after .pwrwarnAssert (queued part (tableQueue .target .readAccess .plain .readAccess))
    d.part = .stopping ∧ d.host.p0.path.map (fun r => (r.tag, r.code)) =
      [(2#3, .halted), (5#3, .halted), (6#3, .halted)] := by
  have h : ∀ b0 b1 : Bool, Config.haltQueueFirst part.choice = b0 → Config.haltQueueFirst (part.choice + 1) = b1 →
      (after .pwrwarnAssert (queued part (tableQueue .target .readAccess .plain .readAccess))).part = .stopping ∧
      (after .pwrwarnAssert (queued part (tableQueue .target .readAccess .plain .readAccess))).host.p0.path.map
        (fun r => (r.tag, r.code)) = [(2#3, .halted), (5#3, .halted), (6#3, .halted)] := by
    intro b0 b1 h0 h1
    have e0 : Config.haltQueueFirst 0 = b0 := h0
    have e1 : Config.haltQueueFirst 1 = b1 := h1
    simp only [after, exec, execPwrwarnAssert, Device.pwrwarnAssert, Device.enterStopping, queued, part, Device.cleared,
      Nat.zero_add, e0, e1]
    cases b0 <;> cases b1 <;> exact ⟨rfl, rfl⟩
  exact h _ _ rfl rfl

theorem test_safe_entry :
    let d := after .safeEntry { part with part := .stopping, link := ⟨.working .update, 2#4, [], false⟩ }
    d.part = .safe ∧ d.link.slot = .ready .wrongState [] ∧ d.alerts.latches = 0x200#10 := by decide

theorem test_prst_assert_clears :
    (after .prstAssert part).part = .cold ∧ (after .prstAssert part).scope.p0.stack = [] := by decide

/-! ## Anchor unit, recovery -/

theorem test_update_writes_copy_b :
    let d := after .anchorUpdateBegin { part with anchor := { part.anchor with linkReq := .pending } }
    d.anchor.update.map (fun u => (u.target, u.generation, u.values.tail)) = some (.b, 6#32, 300) ∧
    (d.array.anchorReq.map accessLine) = some 2 := by decide +kernel

theorem test_format_copy_epoch :
    let d := after .formatCopyWrite { part with part := .unformatted, anchor := { AnchorUnit.cleared with
      format := some ⟨1048576, 4096, 4096, 40, .unformatted⟩ } }
    d.anchor.update.map (fun u => (u.target, u.generation, u.values.epoch)) = some (.a, 1#32, 1#16) := by decide +kernel

/-- R61: a format copy that fails in FAILED, where the journal is FAULTED, latches JFAULT and MEDIA again. -/
theorem test_format_failure_in_failed :
    let d : Device := { part with part := .failed, journal := { part.journal with faulted := true } }
    (d.copyWriteFailed ⟨.b, 6#32, d.setupInForce, .format .failed, true⟩).alerts.latches = 0x048#10 := by decide +kernel

theorem test_newest_copy : newerThan 0#32 0xFFFFFFFF#32 = true ∧ newerThan 0xFFFFFFFF#32 0#32 = false ∧
    newerThan 0x7FFFFFFF#32 0#32 = true ∧ newerThan 5#32 5#32 = false := by decide

/-- A CLOSE of another serial than the open scope's is a mismatch (R131, R132). -/
theorem test_scan_mismatch :
    let s : ScanPort := ⟨true, [⟨1, 7#16, 300, 9020#32⟩], some 300, some 7#16⟩
    let h := (part.journal).headerOf ⟨.marker, .p0, 1, 8#16, .close .committed⟩
    matchRecord s 320 h = none ∧ matchRecord s 320 { h with serial := 7#16 } =
      some ⟨true, [], none, some 7#16⟩ := by decide +kernel

/-! ## Management link (Table 12-5) -/

/-- Step 1: SET REGION for region 2, exchange 3: the entry is replaced, the slot WORKING. Quiet, so depth 0. -/
def quietPart : Device := { part with scope := ⟨ScopePort.cleared, ScopePort.cleared⟩ }

theorem test_set_region :
    let d := after (.setRegion (frame [2#8, 0x0D#8, 0#8, 0#8, 0#8, 0#8, 0x40#8, 0#8, 0#8, 0#8, 0x7F#8, 0xFF#8])) quietPart
    d.regions.entries[2] = ⟨16384, 32767, .journal, true, true⟩ ∧ d.link.slot = .working .update ∧
    d.anchor.linkReq = .pending := by decide +kernel

theorem test_set_region_not_quiet :
    (after (.setRegion (frame [2#8, 0x0D#8, 0#8, 0#8, 0#8, 0#8, 0x40#8, 0#8, 0#8, 0#8, 0x7F#8, 0xFF#8])) part).link.slot =
      .ready .notQuiet [] := by decide +kernel

/-- Step 2: FETCH REPLY while WORKING is discarded; the state byte says WORKING, 3. -/
theorem test_fetch_while_working :
    let d := after (.fetchReply (fetch .current 3 false)) { part with link := ⟨.working .update, 3#4, [], false⟩ }
    d.link.slot = .working .update ∧ d.link.sent.head? = some 0x31#8 := by decide

/-- Step 4: the reply DONE, exchange 3, is clocked out in full. -/
theorem test_fetch_done :
    let d := after (.fetchReply (fetch .current 3 false)) { part with link := ⟨.ready .done [], 3#4, [], false⟩ }
    d.link.slot = .empty ∧ d.link.sent = [0x32#8, 0#8, 0#8, 0#8, 0x30#8, crc8 [0#8, 0x30#8]] := by decide +kernel

/-- Selected while WORKING, READY by its check: the state byte says WORKING, and the reply follows. READY after the check:
zeros, and the reply stays (R161, R165). -/
theorem test_state_byte_is_of_the_selection :
    let d : Device := { part with link := ⟨.ready .done [], 3#4, [], true⟩ }
    let served := (after (.fetchReply (fetch .beforeReply 3 false)) d).link
    let late := (after (.fetchReply (fetch .checkedBeforeReply 3 false)) d).link
    served.sent = [0x31#8, 0#8, 0#8, 0#8, 0x30#8, crc8 [0#8, 0x30#8]] ∧ served.slot = .empty ∧
    late.sent = [0x31#8, 0#8, 0#8, 0#8, 0#8, 0#8] ∧ late.slot = .ready .done [] := by decide +kernel

/-- A frame in progress when the part is reset is not taken (R161). -/
theorem test_frame_cut_by_a_reset :
    after (.getState { frame [] with selected := .beforeReset }) part = part ∧
    after (.frameCutShort ⟨.beforeReset, 2⟩) part = part := by
  simp [after, exec, execGetState, execFrameCutShort, Device.command, Device.frameCutShort, Device.onFrame,
    LinkController.sampled]

/-- A FETCH REPLY that ends with a part-byte: inside the reply it is not counted and the reply stays; with the slot EMPTY
it is counted (R163, R165). -/
theorem test_fetch_part_byte :
    let inside := after (.fetchReply (fetch .current 2 true)) { part with link := ⟨.ready .done [], 3#4, [], false⟩ }
    let empty := after (.fetchReply (fetch .current 2 true)) part
    inside.counters.badFrames = 0#32 ∧ inside.link.slot = .ready .done [] ∧ empty.counters.badFrames = 1#32 ∧
    empty.link.slot = .empty := by decide +kernel

/-- Step 5: a wrong frame check: READY, 4, BADCHECK; BAD_FRAMES is 1. -/
theorem test_bad_check :
    let d := after (.badCheck { frame [] with exchange := 4#4 }) { part with link := ⟨.empty, 3#4, [], false⟩ }
    d.link.slot = .ready .badCheck [] ∧ d.link.exchange = 4#4 ∧ d.counters.badFrames = 1#32 := by decide

theorem test_get_state_payload :
    part.statePayload.length = 36 ∧ part.statePayload.take 4 = [3#8, 0#8, 0#8, 0#8] ∧
    part.statePayload.drop 20 = [1#8, 1#8, 0#8, 0#8, 0#8, 0#8, 0#8, 5#8, 0#8, 0#8, 0#8, 1#8, 0#8, 1#8, 0#8, 0#8] := by
  decide +kernel

theorem test_get_claims_slot :
    ((claimed part ⟨9000, .p1, true, ⟨none, some 0x12345, none, none⟩⟩).claimsPayload 0).take 15 =
      [0#8, 0#8, 0x23#8, 0x28#8, 0x27#8, 0#8, 0#8, 0x50#8, 0x34#8, 0x12#8, 0#8, 0#8, 0#8, 0#8, 0#8] := by decide +kernel

theorem test_set_array_timeout :
    (after (.setArrayTimeout (frame [0#8, 0#8, 0x09#8, 0xF6#8])) part).array.timeout = 255#8 ∧
    (after (.setArrayTimeout (frame [0#8, 0#8, 0x09#8, 0xF7#8])) part).link.slot = .ready .badParam [] := by
  decide +kernel

theorem test_force_abandon_of_wedged :
    let s := { scope 7#16 300 with state := .wedged }
    (after (.forceAbandon (frame [0#8, 0#8, 0#8, 0#8])) { part with scope := ⟨s, part.scope.p1⟩ }).link.slot =
      .ready .wrongState [] := by decide +kernel

theorem test_ack_alerts :
    let d := after (.ackAlerts (frame [0x02#8, 0x01#8, 0#8, 0#8])) { part with alerts := ⟨0x241#10, 0x3FF#10⟩ }
    d.alerts.latches = 0x040#10 ∧ d.link.slot = .ready .done [0#8, 0x40#8, 0#8, 0#8] := by decide

theorem test_counter_stops : bump 0xFFFFFFFF#32 = 0xFFFFFFFF#32 ∧ bump 7#32 = 8#32 := by decide

/-! ## Witnesses: the machine, formats, resets, lines -/

/-- Port 0 with one waiting request. -/
def alone (d : Device) (r : Request) : Device := queued d [entry r .waiting]

/-- The one waiting request of a port that begins requests is the one that begins. -/
theorem starts_alone (d : Device) (r : Request) (part : d.part = .running ∨ d.part = .unformatted ∨ d.part = .failed)
    (state : d.scope.p0.state = .active) (pending : d.scope.p0.pendingAbandon = none) (format : d.anchor.format = none) :
    Starts (alone d r) .p0 0 (entry r .waiting) := by
  refine ⟨⟨rfl, part, state, pending, format⟩, ⟨⟨rfl, rfl, Nat.succ_pos 3, ?_, ?_, ?_⟩, ?_⟩, rfl⟩
  · intro j x h; exact absurd h (Nat.not_lt_zero j)
  · intro _ j x h; exact absurd h (Nat.not_lt_zero j)
  · refine fun _ => ⟨fun j x h => absurd h (Nat.not_lt_zero j), fun x hx => ?_⟩
    cases List.mem_singleton.1 hx; rfl
  · intro j x h; exact absurd h (Nat.not_lt_zero j)

theorem starts_part (r : Request) : Starts (alone part r) .p0 0 (entry r .waiting) :=
  starts_alone part r (.inl rfl) rfl rfl rfl

/-- Nothing is claimed in the part as it stands. -/
theorem unclaimed_part (line : Nat) : Unclaimed part.claims line := fun j x h => by
  simp [part, Device.cleared, ClaimTable.cleared] at h

/-- The entry put in slot 0 is the one found for its line. -/
theorem claimed_zero (d : Device) (c : Claim) : ClaimedAt (claimed d c).claims c.line 0 c :=
  ⟨rfl, rfl, fun j h => absurd h (Fin.not_lt_zero j)⟩

theorem witness_IdleStepPassesAMillisecond : { part with part := .safe }.part = .safe ∧ part.part ≠ .safe := by decide

theorem witness_ManagementFramesRoundTrip :
    let set : Frame :=
      ⟨.beforeReset, 15#4, [7#8, 0x0D#8, 0#8, 0#8, 0#8, 0#8, 0x40#8, 0#8, 0#8, 0#8, 0x7F#8, 0xFF#8], 0, false⟩
    let odd : Frame := ⟨.current, 0#4, List.replicate 60 0xFF#8, 5, false⟩
    let ask := fetch .beforeReply 9 true
    ((Instr.fetchReply ask).wellFormed = true ∧ frameOf (.fetchReply ask) = some (0x0F#8, ask)) ∧
    ((Instr.setRegion set).wellFormed = true ∧ frameOf (.setRegion set) = some (0x20#8, set)) ∧
    (Instr.unknown 0xFF#8 odd).wellFormed = true ∧ frameOf (.unknown 0xFF#8 odd) = some (0xFF#8, odd) := by decide

theorem witness_SpoiledFramesAreTold :
    let f : Frame := ⟨.checkedBeforeReply, 15#4, List.replicate 60 0xFF#8, 0, false⟩
    let head := 0x08#8 :: lengthByte f.exchange f.payload.length :: f.payload
    f.wellFormed = true ∧ 0 < 1 ∧ 62 < 3 + f.payload.length ∧ crc8 head + 1#8 ≠ crc8 head ∧ (0x08#8 : Byte) ≠ 0x0F#8 ∧
    0x08#8 ∉ commandCodes ∧ f.partByte = false := by
  have other : ∀ x : Byte, x + 1#8 ≠ x := by decide
  exact ⟨by decide, by decide, by decide, other _, by decide, by decide, rfl⟩

/-- The values in force in the part, at the edges of Table 7-1. -/
def setup : Setup :=
  { epoch := 1#16, timeout := 255#8, defaultMode := .pass, arrayLines := 8192, base := 4, lines := 256, tail := 511,
    tailSeq := 0xFFFFFFFF#32, lowWater := 503, limit := ⟨0xFFFF#16, 0#16⟩, action := ⟨.abandon, .alert⟩,
    regions := (Vector.replicate 8 Region.cleared).set 7 ⟨0, 8191, .guard, true, true⟩ }

theorem witness_StoredFormatsRoundTrip :
    setup.inRange = true ∧ ∀ i : Fin 8, setup.regions[i].first < 2 ^ 32 ∧ setup.regions[i].last < 2 ^ 32 := by
  decide +kernel

theorem slotFree_part : SlotFree part := fun w h => by simp [part, Device.cleared, LinkController.cleared] at h

/-- The slot READY since a frame that is in progress was selected. -/
def replied : Device := { part with link := ⟨.ready .done [], 3#4, [], true⟩ }

theorem slotFree_replied : SlotFree replied := fun w h => by cases h

/-- A frame selected with the slot as it is; frames selected while the slot was WORKING. -/
theorem frameTaken_part (payload : List Byte) : FrameTaken part (frame payload) := ⟨slotFree_part, .inl rfl⟩

theorem frameTaken_replied :
    FrameTaken replied { frame [] with selected := .beforeReply } ∧
    FrameTaken replied { frame [] with selected := .checkedBeforeReply } :=
  ⟨⟨slotFree_replied, .inr ⟨rfl, .inl rfl⟩⟩, slotFree_replied, .inr ⟨rfl, .inr rfl⟩⟩

theorem witness_ResetsClearEveryBlock :
    (part.prst = false ∧ part.pwrwarn = false ∧ FrameTaken part (frame []) ∧ part.part ≠ .stopping ∧ part.part ≠ .safe ∧
      (frame []).payload = []) ∧
    (let d := coldAfter { part with prst := true };
      d.prst = true ∧ d.pwrwarn = false ∧ FrameTaken d (frame []) ∧ d.part ≠ .stopping ∧ d.part ≠ .safe) ∧
    ({ part with pwrwarn := true }.prst = false ∧ { part with pwrwarn := true }.pwrwarn = true) ∧
    { part with prst := true, pwrwarn := true }.prst = true := by
  refine ⟨⟨rfl, rfl, frameTaken_part [], by decide, by decide, rfl⟩,
    ⟨rfl, rfl, ⟨fun w h => (by cases h), .inl rfl⟩, by decide, by decide⟩, by decide, rfl⟩

/-- A waiting and a begun request, a job being closed and a marker's item: what the first clause admits. -/
theorem witness_WarningStopsThePart :
    let d : Device := { queued part (tableQueue .target .readAccess .plain .readAccess) with
      rollback := ⟨[⟨.p1, .all, .abandonedTimer, 0, 0, .closing, 0⟩], none⟩
      journal := { part.journal with queue := [⟨.marker, .p0, 2, 8#16, .openScope⟩], held := some .request } }
    (d.prst = false ∧ d.pwrwarn = false ∧ d.part ≠ .safe ∧ d.part ≠ .stopping ∧
      (∀ j ∈ d.rollback.jobs, j.phase ≠ .waiting) ∧
      (∀ i ∈ d.journal.queue, i.source = .write ∨ i.source = .marker) ∧
      ¬(d.journal.held = some .request ∧ d.anchor.writerReq = .pending) ∧
      (d.journal.queue = [] → d.journal.held = none)) ∧
    { d with part := .stopping }.part = .stopping := by
  decide +kernel

/-- A marker's item, and that of a write, held for an update not begun; a job of each port, one waiting and one whose CLOSE
item is not taken, the ABANDON of the first begun. -/
theorem witness_WarningDropsWaitingWork :
    let first : Job := ⟨.p0, .level 1, .abandonedHost, 0, 0, .waiting, 0⟩
    let second : Job := ⟨.p1, .all, .abandonedTimer, 0, 0, .closing, 0⟩
    let close : Item := ⟨.rollback, .p1, 1, 12#16, .close .abandonedTimer⟩
    let d (i : Item) (e : Entry) : Device :=
      { queued (claimed part ⟨9000, .p0, true, noImages⟩) [e] with
        rollback := ⟨[first, second], none⟩
        journal := { part.journal with queue := [i, close], held := some .request }
        anchor := { part.anchor with writerReq := .pending } }
    let marker : Item := ⟨.marker, .p0, 2, 8#16, .openScope⟩
    let image : Item := ⟨.write, .p0, 1, 7#16, .image 9000 0#512⟩
    (∀ i e, (d i e).prst = false ∧ (d i e).pwrwarn = false ∧ (d i e).part = .running ∧
      (d i e).journal.held = some .request ∧ (d i e).anchor.writerReq = .pending ∧
      (d i e).journal.queue = i :: [close] ∧ (d i e).rollback.jobs = [first, second] ∧
      ClaimedAt (d i e).claims 9000 0 ⟨9000, .p0, true, noImages⟩) ∧
    (∀ x ∈ [first, second], x.port = .p0 → x = first) ∧ (∀ x ∈ [first, second], x.port = .p1 → x = second) ∧
    first.phase = .waiting ∧ (close.source = .rollback ∧ close.port = second.port) ∧ first.kind = .level 1 ∧
    (marker.source = .marker ∧ ((d marker (entry (mark 0#2 2#3) .marker)).host.get .p0).markIndex = some 0) ∧
    (image.source = .write ∧ ((d image (entry (write 9000#26) .append)).host.get .p0).lineIndex 9000 = some 0) ∧
    (entry (mark 0#2 2#3) .marker).withheld = false := by
  refine ⟨fun i e => ⟨rfl, rfl, rfl, rfl, rfl, rfl, rfl, claimed_zero part _⟩, ?_⟩
  decide +kernel

/-- Port 0 in a state, with its HRST line. -/
def lined (hrst : Bool) (state : PortState) : Device :=
  { part with host := ⟨⟨hrst, [], []⟩, part.host.p1⟩, scope := ⟨{ part.scope.p0 with state := state }, part.scope.p1⟩ }

theorem witness_HrstLinesAreFollowed :
    (∀ x : PortState, ((lined false x).host.get .p0).hrst = false ∧ ((lined false x).scope.get .p0).state = x ∧
      ((lined true x).host.get .p0).hrst = true ∧ ((lined true x).scope.get .p0).state = x ∧
      (lined false x).part = .running ∧ (lined false x).scope.p0.pendingAbandon = none ∧
      ∀ j ∈ (lined false x).rollback.jobs, j.port ≠ .p0) ∧
    ¬(({ lined false .active with part := .failed }).part = .running) := by
  refine ⟨fun x => ⟨rfl, rfl, rfl, rfl, rfl, rfl, fun j hj => ?_⟩, by decide⟩
  cases hj

/-! ## Witnesses: host ports -/

theorem witness_RequestIsTaken :
    let q := tableQueue .target .finished .plain .readAccess
    let d := queued part q
    (d.host.get .p0).hrst = false ∧ q.length = 7 ∧ (∀ x ∈ (d.host.get .p0).path, x.refusal = false) ∧
    (¬∃ e ∈ q, e.withheld = false ∧ e.req.tag = 7#3) ∧ (∃ e ∈ q, e.withheld = false ∧ e.req.tag = 6#3) ∧
    ¬((queued part (q ++ [entry (request 0#2 7#3 1#26) .waiting])).host.get .p0).queue.length < 8 := by decide +kernel

theorem witness_ResponseIsTaken :
    let d : Device := { part with host := ⟨⟨false, tableQueue .finished .waiting .waiting .waiting, [⟨0#3, .level, 0#512, false⟩]⟩, part.host.p1⟩ }
    (d.host.get .p0).path = ⟨0#3, .level, 0#512, false⟩ :: [] := rfl

theorem witness_HaltedAndWedgedAnswers :
    let q := tableQueue .finished .waiting .waiting .waiting
    let x := entry (request 0#2 1#3 40000#26) .waiting
    let y := entry (request 1#2 2#3 9100#26) .waiting
    let h := queued { part with part := .stopping } q
    let w := queued (lined false .wedged) q
    ((h.host.get .p0).hrst = false ∧ q[1]? = some x ∧ x.stage = .waiting ∧ x.withheld = false ∧ h.part = .stopping ∧
      ∀ j, j < 1 → ∀ z ∈ q[j]?, z.stage ≠ .waiting) ∧
    ((w.host.get .p0).hrst = false ∧ q[2]? = some y ∧ y.stage = .waiting ∧ y.withheld = false ∧ w.part = .running ∧
      (w.scope.get .p0).state = .wedged ∧ (w.scope.get .p0).pendingAbandon = none ∧ w.anchor.format = none ∧
      reqKind y.req ≠ .read ∧ ∀ j, j < 2 → ∀ z ∈ q[j]?, z.stage = .waiting → reqKind z.req = .read) := by
  decide +kernel

/-- A READ of a line, at a start word, of a number of words less 1. -/
def readAt (line : BitVec 26) (start count : BitVec 4) : Request :=
  { read line with startWord := start, countField := count }

/-- Lines 1048575 and 1048576 stand on the two sides of the end of the array. -/
theorem inside_1048575 (d : Device) (h : d.regions = regions) : ¬BeyondArray d 1048575 := by
  rintro ⟨-, n, hn, hl⟩
  rw [h] at hn
  cases hn
  exact absurd hl (by decide)

theorem witness_ReadBegins :
    (Starts (alone part (readAt 9000#26 15#4 1#4)) .p0 0 (entry (readAt 9000#26 15#4 1#4) .waiting) ∧
      16 < (15#4 : BitVec 4).toNat + ((1#4 : BitVec 4).toNat + 1)) ∧
    (Starts (alone part (readAt 1048576#26 15#4 0#4)) .p0 0 (entry (readAt 1048576#26 15#4 0#4) .waiting) ∧
      ¬(16 < (15#4 : BitVec 4).toNat + ((0#4 : BitVec 4).toNat + 1)) ∧
      BeyondArray (alone part (readAt 1048576#26 15#4 0#4)) 1048576) ∧
    (let d := claimed part ⟨1048575, .p1, true, noImages⟩;
      Starts (alone d (readAt 1048575#26 0#4 15#4)) .p0 0 (entry (readAt 1048575#26 0#4 15#4) .waiting) ∧
      ¬(16 < (0#4 : BitVec 4).toNat + ((15#4 : BitVec 4).toNat + 1)) ∧
      ¬BeyondArray (alone d (readAt 1048575#26 0#4 15#4)) 1048575 ∧ Hazard d 1048575) ∧
    (Starts (alone part (readAt 1048575#26 0#4 15#4)) .p0 0 (entry (readAt 1048575#26 0#4 15#4) .waiting) ∧
      ¬BeyondArray part 1048575 ∧ ¬Hazard part 1048575) ∧
    reqKind (readAt 9000#26 15#4 1#4) = .read ∧ reqKind (readAt 1048576#26 15#4 0#4) = .read ∧
    reqKind (readAt 1048575#26 0#4 15#4) = .read := by
  refine ⟨⟨starts_part _, by decide⟩, ⟨starts_part _, by decide, .inl rfl, 1048576, rfl, Nat.le_refl _⟩,
    ⟨starts_alone _ _ (.inl rfl) rfl rfl rfl, by decide, inside_1048575 _ rfl, .inl ⟨0, _, claimed_zero part ⟨1048575, .p1, true, noImages⟩, rfl⟩⟩,
    ⟨starts_part _, inside_1048575 _ rfl, ?_⟩, by decide, by decide, by decide⟩
  rintro (⟨i, c, h, -⟩ | ⟨h, hh, -⟩)
  · exact unclaimed_part _ i c h.1 h.2.1
  · cases hh

theorem witness_ReadBegins_wedged :
    let r := readAt 9000#26 15#4 1#4
    let d := alone (lined false .wedged) r
    (d.host.get .p0).hrst = false ∧ d.part = .running ∧ (d.scope.get .p0).state = .wedged ∧
    (d.scope.get .p0).pendingAbandon = none ∧ d.anchor.format = none ∧
    BeginsNext (d.host.get .p0).queue 0 (entry r .waiting) ∧ (entry r .waiting).withheld = false ∧
    ∀ x ∈ (d.host.get .p0).queue, x.stage = .waiting → reqKind x.req = .read :=
  ⟨rfl, rfl, rfl, rfl, rfl, (starts_part (readAt 9000#26 15#4 1#4)).2.1, rfl, by decide⟩

theorem witness_ReadBegins_hazard :
    let e := entry (read 9000#26) .readHazard
    let d := queued (claimed part ⟨9000, .p1, true, noImages⟩) [e]
    let d' := queued part [e]
    (d.host.get .p0).queue[0]? = some e ∧ e.stage = .readHazard ∧ reqKind e.req = .read ∧ Hazard d 9000 ∧
    ¬Hazard d' 9000 := by
  refine ⟨rfl, rfl, rfl, .inl ⟨0, _, claimed_zero part ⟨9000, .p1, true, noImages⟩, rfl⟩, ?_⟩
  rintro (⟨i, c, h, -⟩ | ⟨h, hh, -⟩)
  · exact unclaimed_part _ i c h.1 h.2.1
  · cases hh

/-- What a WRITE of a line outside the journal area meets, the request naming its words. -/
theorem classed (d : Device) (line : Nat) (hr : d.regions = regions) (hb : d.journal.base = 4096)
    (hl : d.journal.lines = 4096) (h : line < 4096 ∨ 8192 ≤ line) (h' : line < 1048576) :
    ¬BeyondArray d line ∧ ¬InJournal d line := by
  constructor
  · rintro ⟨-, n, hn, hle⟩
    rw [hr] at hn
    cases hn
    exact absurd hle (Nat.not_le.2 h')
  · rintro ⟨h1, h2⟩
    rw [hb] at h1 h2
    rw [hl] at h2
    omega

/-- A WRITE at the word limits. -/
def writeAt (line : BitVec 26) (start count : BitVec 4) : Request :=
  { write line with startWord := start, countField := count }

/-- Every slot taken, by another line. -/
def full (d : Device) : Device := { d with claims := ⟨Vector.replicate 256 (some ⟨9100, .p1, false, noImages⟩)⟩ }

/-- The journal FAULTED. -/
def faulted (d : Device) : Device := { d with journal := { d.journal with faulted := true } }

theorem witness_WriteIsRefused_split :
    Starts (alone part (writeAt 9000#26 1#4 15#4)) .p0 0 (entry (writeAt 9000#26 1#4 15#4) .waiting) ∧
    reqKind (writeAt 9000#26 1#4 15#4) = .write ∧ 16 < (1#4 : BitVec 4).toNat + ((15#4 : BitVec 4).toNat + 1) :=
  ⟨starts_part _, by decide, by decide⟩

/-- Lines 1048576, 3, 4096 and 8191: beyond the array, in the anchor area, at the two ends of the journal. -/
theorem witness_WriteIsRefused_lines :
    (∀ line : BitVec 26, Starts (alone part (write line)) .p0 0 (entry (write line) .waiting) ∧
      reqKind (write line) = .write) ∧
    ¬(16 < (0#4 : BitVec 4).toNat + ((0#4 : BitVec 4).toNat + 1)) ∧ BeyondArray part 1048576 ∧
    (¬BeyondArray part 3 ∧ 3 < 4) ∧ (¬BeyondArray part 4096 ∧ InJournal part 4096) ∧
    (¬BeyondArray part 8191 ∧ InJournal part 8191) ∧ part.part ≠ .unformatted := by
  have inside : ∀ line, line < 1048576 → ¬BeyondArray part line := by
    rintro line h ⟨-, n, hn, hle⟩
    cases hn
    exact absurd hle (Nat.not_le.2 h)
  exact ⟨fun _ => ⟨starts_part _, rfl⟩, by decide, ⟨.inl rfl, 1048576, rfl, Nat.le_refl _⟩,
    ⟨inside 3 (by decide), by decide⟩, ⟨inside 4096 (by decide), by decide, by decide⟩,
    ⟨inside 8191 (by decide), by decide, by decide⟩, by decide⟩

/-- Lines 8255 (GUARD), 8256 (JOURNAL, REFUSE) and 16384 (JOURNAL, ALLOW), at depths 0 and 1. -/
theorem witness_WriteIsRefused_modes :
    (∀ line : Nat, 8192 ≤ line → line < 1048576 → ¬BeyondArray part line ∧ ¬InJournal part line) ∧
    regions.classify 8255 = (.guard, false) ∧ regions.classify 8256 = (.journal, false) ∧
    regions.classify 16384 = (.journal, true) ∧
    Starts (alone { part with part := .failed } (write 8256#26)) .p0 0 (entry (write 8256#26) .waiting) ∧
    (Starts (alone depth0 (write 8256#26)) .p0 0 (entry (write 8256#26) .waiting) ∧ depth0.part = .running ∧
      (depth0.scope.get .p0).stack.length = 0) ∧
    (part.part = .running ∧ (part.scope.get .p0).stack.length ≠ 0) :=
  ⟨fun line h h' => classed part line rfl rfl rfl (.inr h) h', by decide +kernel, by decide +kernel, by decide +kernel,
    starts_alone _ _ (.inr (.inr rfl)) rfl rfl rfl, ⟨starts_alone _ _ (.inl rfl) rfl rfl rfl, rfl, rfl⟩, rfl, by decide⟩

theorem witness_WriteIsRefused_claims :
    (∃ s c, ClaimedAt (claimed depth0 ⟨16384, .p1, true, noImages⟩).claims 16384 s c ∧ c.port ≠ .p0) ∧
    (∃ s c, ClaimedAt (claimed part ⟨8256, .p1, true, noImages⟩).claims 8256 s c ∧ c.port ≠ .p0) ∧
    (∃ s c, ClaimedAt (claimed (faulted part) ⟨8256, .p0, false, noImages⟩).claims 8256 s c ∧ c.port = .p0 ∧
      imageAt c.images 1 = none) ∧
    ((faulted part).journal.faulted = true ∧ Unclaimed (faulted part).claims 8256) ∧
    (part.journal.faulted = false ∧ Unclaimed (full part).claims 8256 ∧
      ∀ s : Fin 256, (full part).claims.slots[s] ≠ none) := by
  refine ⟨⟨0, _, claimed_zero _ ⟨16384, .p1, true, noImages⟩, by decide⟩,
    ⟨0, _, claimed_zero _ ⟨8256, .p1, true, noImages⟩, by decide⟩,
    ⟨0, _, claimed_zero _ ⟨8256, .p0, false, noImages⟩, rfl, rfl⟩, ⟨rfl, unclaimed_part _⟩, rfl, ?_, ?_⟩
  · intro j x h
    have hx : some ⟨9100, .p1, false, noImages⟩ = some x := by simpa [full] using h
    cases hx
    decide
  · intro s h
    simp [full] at h

theorem witness_WriteIsForwarded :
    (let d := { part with part := .unformatted };
      Starts (alone d (writeAt 4#26 0#4 15#4)) .p0 0 (entry (writeAt 4#26 0#4 15#4) .waiting) ∧
      ¬BeyondArray (alone d (writeAt 4#26 0#4 15#4)) 4 ∧
      (0#4 : BitVec 4).toNat + ((15#4 : BitVec 4).toNat + 1) ≤ 16 ∧ reqKind (writeAt 4#26 0#4 15#4) = .write) ∧
    (Starts (alone part (write 1048575#26)) .p0 0 (entry (write 1048575#26) .waiting) ∧
      ¬BeyondArray part 1048575 ∧ ¬InJournal part 1048575 ∧ regions.classify 1048575 = (.pass, false)) ∧
    (Starts (alone depth0 (write 32767#26)) .p0 0 (entry (write 32767#26) .waiting) ∧
      regions.classify 32767 = (.journal, true) ∧ Unclaimed depth0.claims 32767 ∧ (depth0.scope.get .p0).stack.length = 0) ∧
    ∃ s c, ClaimedAt (claimed part ⟨32767, .p0, false, ⟨some 300, none, none, none⟩⟩).claims 32767 s c ∧
      c.port = .p0 ∧ imageAt c.images (part.scope.get .p0).stack.length ≠ none := by
  refine ⟨⟨starts_alone _ _ (.inr (.inl rfl)) rfl rfl rfl, ?_, by decide, by decide⟩,
    ⟨starts_part _, (classed part _ rfl rfl rfl (by decide) (by decide)).1,
      (classed part _ rfl rfl rfl (by decide) (by decide)).2, by decide +kernel⟩,
    ⟨starts_alone _ _ (.inl rfl) rfl rfl rfl, by decide +kernel, unclaimed_part _, rfl⟩,
    0, _, claimed_zero _ ⟨32767, .p0, false, ⟨some 300, none, none, none⟩⟩, rfl, by decide⟩
  rintro ⟨h | h, -⟩ <;> cases h

theorem witness_WriteTakesAnImage :
    let w := write 8256#26
    Starts (alone part w) .p0 0 (entry w .waiting) ∧ reqKind w = .write ∧
    w.startWord.toNat + (w.countField.toNat + 1) ≤ 16 ∧ part.part = .running ∧ part.journal.faulted = false ∧
    ¬BeyondArray part 8256 ∧ 4 ≤ 8256 ∧ ¬InJournal part 8256 ∧ part.regions.classify 8256 = (.journal, false) ∧
    (part.scope.get .p0).stack.length ≠ 0 ∧
    ClaimedAt (claimed part ⟨8256, .p0, false, noImages⟩).claims 8256 0 ⟨8256, .p0, false, noImages⟩ ∧
    (Unclaimed part.claims 8256 ∧ part.claims.slots[(0 : Fin 256)] = none ∧
      ∀ j : Fin 256, j < 0 → part.claims.slots[j] ≠ none) :=
  ⟨starts_part _, rfl, by decide, rfl, rfl, (classed part _ rfl rfl rfl (by decide) (by decide)).1, by decide,
    (classed part _ rfl rfl rfl (by decide) (by decide)).2, by decide +kernel, by decide, claimed_zero _ _,
    unclaimed_part _, rfl, fun j h => absurd h (Fin.not_lt_zero j)⟩

theorem witness_PortInvariantIsKept :
    let d := { part with host := ⟨⟨false, tableQueue .preRead .finished .plain .readAccess,
      [⟨1#3, .ok, 0#512, false⟩, ⟨3#3, .tag, 0#512, true⟩]⟩, part.host.p1⟩ }
    PortInv d.host.p0 ∧ PortInv d.host.p1 := by
  refine ⟨?_, ?_⟩ <;> (unfold PortInv; decide +kernel)

theorem witness_OtherPortIsUntouched :
    Instr.writeBegin .p1 ∈ [Instr.hrstAssert .p1, .hrstRelease .p1, .requestTaken .p1 (read 0#26), .responseTaken .p1,
      .readBegin .p1, .readHazardClear .p1 0#26, .writeBegin .p1, .openMark .p1, .closeMark .p1, .abandonMark .p1,
      .markKindNone .p1] := by decide

/-! ## Witnesses: markers, the array port -/

/-- Port 0 at a depth, with one marker. -/
def deep (depth : Nat) (r : Request) : Device :=
  alone { part with scope := ⟨{ part.scope.p0 with stack := List.replicate depth ⟨7#16, 300⟩ }, part.scope.p1⟩ } r

theorem starts_deep (depth : Nat) (r : Request) : Starts (deep depth r) .p0 0 (entry r .waiting) :=
  starts_alone _ _ (.inl rfl) rfl rfl rfl

/-- At depths 0, 3 and 4: an OPEN of level 5 at depth 4, one of level 3 at depth 3, a CLOSE of level 0 at depth 0, an
ABANDON of level 7, a MARK of no kind. -/
theorem witness_MarkersAreRefused :
    (∀ depth r, Starts (deep depth r) .p0 0 (entry r .waiting)) ∧
    Starts (alone { part with part := .unformatted } (mark 0#2 1#3)) .p0 0 (entry (mark 0#2 1#3) .waiting) ∧
    Starts (alone (faulted part) (mark 0#2 2#3)) .p0 0 (entry (mark 0#2 2#3) .waiting) ∧
    (faulted part).journal.faulted = true ∧ (deep 4 (mark 0#2 5#3)).part = .running ∧
    (deep 4 (mark 0#2 5#3)).journal.faulted = false ∧
    (markKind (mark 0#2 5#3) = .openScope ∧ ((deep 4 (mark 0#2 5#3)).scope.get .p0).stack.length = 4) ∧
    (markKind (mark 0#2 3#3) = .openScope ∧ ((deep 3 (mark 0#2 3#3)).scope.get .p0).stack.length ≠ 4 ∧
      (mark 0#2 3#3).level.toNat ≠ ((deep 3 (mark 0#2 3#3)).scope.get .p0).stack.length + 1) ∧
    (markKind (mark 1#2 0#3) = .closeScope ∧ (mark 1#2 0#3).level.toNat = 0) ∧
    (markKind (mark 2#2 7#3) = .abandonScope ∧ 4 < (mark 2#2 7#3).level.toNat) ∧
    (markKind (mark 3#2 1#3) = .none ∧ reqKind (mark 3#2 1#3) = .mark) :=
  ⟨starts_deep, starts_alone _ _ (.inr (.inl rfl)) rfl rfl rfl, starts_alone _ _ (.inl rfl) rfl rfl rfl, rfl, rfl, rfl,
    ⟨rfl, rfl⟩, ⟨rfl, by decide, by decide⟩, ⟨rfl, rfl⟩, ⟨rfl, by decide⟩, rfl, rfl⟩

/-- An OPEN of level 4 at depth 3, a CLOSE at depths 4 and 1, an ABANDON at depth 4. -/
theorem witness_MarkersAreCarriedOut :
    (∀ depth r, Starts (deep depth r) .p0 0 (entry r .waiting)) ∧
    (markKind (mark 0#2 4#3) = .openScope ∧ (mark 0#2 4#3).level.toNat = ((deep 3 (mark 0#2 4#3)).scope.get .p0).stack.length + 1) ∧
    (markKind (mark 1#2 4#3) = .closeScope ∧ (mark 1#2 4#3).level.toNat = ((deep 4 (mark 1#2 4#3)).scope.get .p0).stack.length) ∧
    (markKind (mark 1#2 1#3) = .closeScope ∧ (mark 1#2 1#3).level.toNat = ((deep 1 (mark 1#2 1#3)).scope.get .p0).stack.length) ∧
    (markKind (mark 2#2 4#3) = .abandonScope ∧ (mark 2#2 4#3).level.toNat = ((deep 4 (mark 2#2 4#3)).scope.get .p0).stack.length) ∧
    ∀ depth r, (deep depth r).part = .running ∧ (deep depth r).journal.faulted = false :=
  ⟨starts_deep, ⟨rfl, rfl⟩, ⟨rfl, rfl⟩, ⟨rfl, rfl⟩, ⟨rfl, rfl⟩, fun _ _ => ⟨rfl, rfl⟩⟩

/-- Requests in every class, then in fewer and fewer; the number wraps. -/
theorem witness_TheArbiterGrantsByClass :
    let a : ArrayPort := { ArrayPort.cleared with number := 15#4, lastHost := .p0, hostReq := ⟨[.readLine 7], [.readLine 8]⟩ }
    let x := Access.readLine 5
    (a.outstanding = none ∧ { a with anchorReq := some x }.anchorReq = some x ∧ a.anchorReq = none ∧
      { a with journalReq := some x }.journalReq = some x ∧ a.journalReq = none ∧
      { a with rollbackReq := some x }.rollbackReq = some x ∧ a.rollbackReq = none ∧
      { a with recoveryReq := some x }.recoveryReq = some x ∧ a.recoveryReq = none) ∧
    (a.hostReq.get .p1 = .readLine 8 :: [] ∧ a.lastHost = Port.p1.other) ∧
    ({ a with hostReq := ⟨[.readLine 7], []⟩ }.hostReq.get .p0 = .readLine 7 :: [] ∧
      { a with hostReq := ⟨[.readLine 7], []⟩ }.hostReq.get Port.p0.other = []) ∧
    ({ a with hostReq := ⟨[], []⟩ }.hostReq.get .p0 = [] ∧ { a with hostReq := ⟨[], []⟩ }.hostReq.get .p1 = []) ∧
    (waitingFor part .rollback x).array.outstanding ≠ none := by decide

theorem witness_LateResponsesAreOnlyCounted :
    (∀ o, part.array.outstanding = some o → o.number ≠ 0#4) ∧
    ∀ o, (waitingFor part .rollback (.readLine 9)).array.outstanding = some o → o.number ≠ 4#4 := by
  constructor
  · intro o h; cases h
  · intro o h; cases h; decide

/-- Port 0 with a request of line 9000 at a stage and its access outstanding. -/
def atStage (r : Request) (stage : Stage) (a : Access) : Device :=
  waitingFor (queued part [entry r stage]) (.host .p0) a

theorem witness_HostWorkIsAnswered :
    let o : Outstanding := ⟨.readLine 9000, .host .p0, 3#4, 50#8⟩
    let w : Outstanding := ⟨writeAccess (write 9000#26), .host .p0, 3#4, 50#8⟩
    let reads := atStage (readAt 9000#26 15#4 0#4) .readAccess o.access
    let plain := atStage (write 9000#26) .plain w.access
    let pre := atStage (write 9000#26) .preRead o.access
    (reads.array.outstanding = some o ∧ o.requester = .host .p0 ∧
      (reads.host.get .p0).lineIndex (accessLine o.access) = some 0 ∧
      (reads.host.get .p0).queue[0]? = some (entry (readAt 9000#26 15#4 0#4) .readAccess)) ∧
    (plain.array.outstanding = some w ∧ (plain.host.get .p0).lineIndex (accessLine w.access) = some 0 ∧
      (plain.host.get .p0).queue[0]? = some (entry (write 9000#26) .plain)) ∧
    (pre.array.outstanding = some o ∧ (pre.host.get .p0).lineIndex (accessLine o.access) = some 0 ∧
      (pre.host.get .p0).queue[0]? = some (entry (write 9000#26) .preRead) ∧
      (pre.scope.get .p0).stack = ⟨7#16, 300⟩ :: []) := by decide +kernel

theorem witness_HostWorkFails :
    let o : Outstanding := ⟨.readLine 9000, .host .p0, 3#4, 50#8⟩
    let c : Claim := ⟨9000, .p0, true, noImages⟩
    let held : Claim := ⟨9000, .p0, true, ⟨some 300, none, none, none⟩⟩
    let pre := atStage (write 9000#26) .preRead o.access
    (pre.array.outstanding = some o ∧ o.requester = .host .p0 ∧
      (pre.host.get .p0).lineIndex (accessLine o.access) = some 0 ∧
      (pre.host.get .p0).queue[0]? = some (entry (write 9000#26) .preRead)) ∧
    ClaimedAt (claimed pre c).claims 9000 0 c ∧ ClaimedAt (claimed pre held).claims 9000 0 held := by
  refine ⟨by decide +kernel, claimed_zero _ _, claimed_zero _ _⟩

theorem witness_NoHostWriteReachesTheAnchorArea :
    let d := atStage (write 4#26) .preRead (.readLine 4)
    let i : Item := ⟨.write, .p0, 1, 7#16, .image 4 0#512⟩
    HostWritesClear { d with journal := { d.journal with queue := [i], append := some ⟨i, 0, 320, []⟩ } } := by
  refine ⟨?_, ?_, ?_, ?_, ?_⟩
  · intro p a ha; cases p <;> cases ha
  · intro o p ho _ hn; cases ho; exact absurd rfl (hn 4)
  · intro p e he _
    cases p
    · cases List.mem_singleton.1 he; decide
    · cases he
  · intro i hi _ line body h; cases List.mem_singleton.1 hi; cases h; decide
  · intro a ha _ line body h; cases ha; cases h; decide

/-! ## Witnesses: the journal writer -/

/-- The journal of Table 3-7 with another head, another tail and items in the queue; no scope tree. -/
def journalAt (head tail : Nat) (queue : List Item) : Journal :=
  { wrap with head := head, tail := tail, treeStart := ⟨none, none⟩, queue := queue }

def openItem : Item := ⟨.marker, .p0, 2, 8#16, .openScope⟩
def imageItem : Item := ⟨.write, .p0, 1, 7#16, .image 9000 0xAB#512⟩
def closeItem : Item := ⟨.marker, .p0, 1, 7#16, .close .committed⟩

/-- Each record with just the room it needs: 2 cells, 10, 14 with its PAD of 2; a held item taken again. -/
theorem witness_TheWriterIssuesAnAppend :
    let free (head tail : Nat) := 512 - (head + 512 - tail % 512) % 512
    (∀ head tail i, (journalAt head tail [i]).queue = i :: [] ∧ (journalAt head tail [i]).append = none ∧
      (journalAt head tail [i]).faulted = false ∧ (journalAt head tail [i]).held = none ∧
      { journalAt head tail [i] with held := some .over }.held = some Hold.over ∧ (journalAt head tail [i]).lines = 256) ∧
    free 509 511 = 2 ∧ free 509 7 = 10 ∧ free 510 12 = 14 ∧
    (∃ first, (journalAt 509 511 [closeItem]).appendWrites closeItem = first :: []) ∧
    (∃ first, (journalAt 509 7 [openItem]).appendWrites openItem = first :: []) ∧
    ∃ pad first last, (journalAt 510 12 [imageItem]).appendWrites imageItem = pad :: [first, last] :=
  ⟨fun _ _ _ => ⟨rfl, rfl, rfl, rfl, rfl, rfl⟩, by decide, by decide, by decide, ⟨_, rfl⟩, ⟨_, rfl⟩, ⟨_, _, _, rfl⟩⟩

/-- A begun OPEN, or a begun write of line 9000 with its PENDING entry, and the journal as given. -/
def appending (r : Request) (stage : Stage) (j : Journal) : Device :=
  { queued (claimed part ⟨9000, .p0, true, noImages⟩) [entry r stage] with journal := j }

/-- An OPEN with 9 free cells where 10 are needed, an IMAGE with 11 where 12 are: against the anchored tail alone, then
against the live tail too. -/
theorem witness_TheWriterHoldsOrRefuses :
    let tree : PerPort (Option TreeStart) := ⟨some ⟨6, 69998#32⟩, none⟩
    let j := journalAt 509 6 [openItem]
    let k := journalAt 500 511 [imageItem]
    let d := appending (mark 0#2 2#3) .marker j
    let w := appending (write 9000#26) .append k
    (j.queue = openItem :: [] ∧ j.append = none ∧ (d.host.get .p0).queue[0]? = some (entry (mark 0#2 2#3) .marker) ∧
      j.held = none ∧ { j with held := some Hold.over }.held = some Hold.over ∧
      openItem.source = .marker ∧ openItem.record = .openScope ∧ (d.host.get .p0).markIndex = some 0) ∧
    (k.queue = imageItem :: [] ∧ imageItem.source = .write ∧ imageItem.record = .image 9000 0xAB#512 ∧
      (w.host.get .p0).lineIndex 9000 = some 0) ∧
    (j.faulted = false ∧ ¬ j.need .openScope ≤ j.freeAnchored ∧ j.need .openScope ≤ j.freeLive ∧ d.part ≠ .stopping ∧
      d.anchor.update = none) ∧
    (¬ k.need imageItem.record ≤ k.freeAnchored ∧ k.need imageItem.record ≤ k.freeLive) ∧
    ¬ { j with treeStart := tree }.need .openScope ≤ { j with treeStart := tree }.freeLive := by decide +kernel

/-- Two tree starts on both sides of the end of the journal, one, and none; the tree of port 1 lies 5 cells farther back. -/
theorem witness_TheWriterHoldsOrRefuses_tails :
    let two := { journalAt 3 500 [] with treeStart := ⟨some ⟨2, 9#32⟩, some ⟨509, 4#32⟩⟩ }
    0 < two.lines ∧ two.treeStart = ⟨some ⟨2, 9#32⟩, some ⟨509, 4#32⟩⟩ ∧
    ((two.head : Int) - 2) % (2 * two.lines : Int) < ((two.head : Int) - 509) % (2 * two.lines : Int) ∧
    { two with treeStart := ⟨none, some ⟨509, 4#32⟩⟩ }.treeStart = ⟨none, some ⟨509, 4#32⟩⟩ ∧
    (journalAt 3 500 []).treeStart = ⟨none, none⟩ := by decide

theorem witness_TheWriterHoldsOrRefuses_claim :
    ClaimedAt (appending (write 9000#26) .append (journalAt 500 511 [imageItem])).claims 9000 0 ⟨9000, .p0, true, noImages⟩ :=
  claimed_zero part _

/-- Any bytes are those of a line, so each record's writes leave some line behind. -/
theorem line_of_bytes (f : Nat → Byte) : ∃ new : LineData, ∀ k, k < 64 → lineByte new k = f k := by
  refine ⟨BitVec.ofFnLE fun i : Fin 512 => (f (i.val / 8)).getLsbD (i.val % 8), fun k hk => ?_⟩
  ext i hi
  simp only [lineByte, BitVec.getElem_extractLsb', BitVec.getLsbD_ofFnLE]
  have h1 : 8 * k + i < 512 := by omega
  have h2 : (8 * k + i) / 8 = k := by omega
  have h3 : (8 * k + i) % 8 = i := by omega
  simp [h1, h2, h3, hi]

/-- An OPEN in an odd cell; an IMAGE with a PAD of 1, of 2, and with none. -/
theorem witness_RecordsReadBack :
    (∀ a old, ∃ new : LineData, ∀ k, k < 64 → lineByte new k = byteAfter a old k) ∧
    (∀ line body, openItem.record ≠ .image line body) ∧ imageItem.record = .image 9000 0xAB#512 ∧
    (511 : Nat) % 2 = 1 ∧ 2 * wrap.lines - 511 = 1 ∧ 2 * wrap.lines - 510 = 2 ∧ ¬ 2 * wrap.lines - 509 < 3 :=
  ⟨fun a old => line_of_bytes _, fun _ _ h => (nomatch h), rfl, rfl, rfl, rfl, by decide⟩

/-- The last write of an append outstanding. -/
def ending (d : Device) (i : Item) (pad : Nat) : Device :=
  waitingFor { d with journal := { d.journal with append := some ⟨i, pad, if pad = 0 then 320 else 0, []⟩ } } .journal
    (.readLine 4256)

theorem append_ends (d : Device) (i : Item) (pad : Nat) :
    AppendEnds (ending d i pad) 3#4 ⟨.readLine 4256, .journal, 3#4, 50#8⟩
      ⟨i, pad, if pad = 0 then 320 else 0, []⟩ := ⟨rfl, rfl, rfl, rfl, rfl⟩

theorem witness_OpenRecordDurable :
    let d := ending (queued part [entry (mark 0#2 2#3) .marker]) openItem 0
    (∃ n o a, AppendEnds d n o a ∧ a.item = openItem ∧ a.pad = 0) ∧ openItem.source = .marker ∧
    openItem.record = .openScope ∧ openItem.port = .p0 ∧ (d.host.get .p0).markIndex = some 0 ∧
    (d.host.get .p0).queue[0]? = some (entry (mark 0#2 2#3) .marker) :=
  ⟨⟨_, _, _, append_ends _ openItem 0, rfl, rfl⟩, rfl, rfl, rfl, rfl, rfl⟩

/-- A CLOSE MERGED of level 4 and a CLOSE COMMITTED at depth 1. -/
theorem witness_CloseRecordDurable :
    let d := ending (queued part [entry (mark 1#2 1#3) .marker]) closeItem 0
    let merged : Item := ⟨.marker, .p0, 4, 8#16, .close .merged⟩
    (∃ n o a, AppendEnds d n o a ∧ a.item = closeItem ∧ a.pad = 0) ∧ closeItem.source = .marker ∧
    closeItem.record = .close .committed ∧ (d.scope.get .p0).stack.length = 1 ∧ closeItem.port = .p0 ∧
    (d.host.get .p0).markIndex = some 0 ∧ (d.host.get .p0).queue[0]? = some (entry (mark 1#2 1#3) .marker) ∧
    (∃ n o a, AppendEnds (ending d merged 0) n o a ∧ a.item = merged ∧ a.pad = 0) ∧
    merged.record = .close .merged ∧ merged.source = .marker :=
  ⟨⟨_, _, _, append_ends _ closeItem 0, rfl, rfl⟩, rfl, rfl, rfl, rfl, rfl, rfl, ⟨_, _, _, append_ends _ _ 0, rfl, rfl⟩,
    rfl, rfl⟩

/-- A job of port 0. -/
def job (kind : JobKind) (phase : JobPhase) (cursor : Nat) : Job := ⟨.p0, kind, .abandonedHost, cursor, 0, phase, 0⟩

/-- The CLOSE of a level by a job of port 0 at a depth, the port in a state, with its ABANDON begun. -/
def rollbackItem (level : Nat) : Item := ⟨.rollback, .p0, level, 7#16, .close .abandonedHost⟩
def rolling (kind : JobKind) (depth level : Nat) (state : PortState) : Device :=
  ending { queued part [entry (mark 2#2 1#3) .marker] with
    rollback := ⟨[job kind .closing 0], none⟩
    scope := ⟨{ part.scope.p0 with state := state, stack := List.replicate depth ⟨7#16, 300⟩, resetNoted := true },
      part.scope.p1⟩ } (rollbackItem level) 0

/-- A job of level 1 at depth 1, one of level 4 at depth 4, a job of all levels after the records of levels 1, 2 and 4, in
UNWINDING and in RESETTING, in RUNNING and in STOPPING. -/
theorem witness_CloseRecordDurable_rollback :
    (∀ kind depth level state, let d := rolling kind depth level state
      (∃ n o a, AppendEnds d n o a ∧ a.item = rollbackItem level ∧ a.pad = 0) ∧
      d.rollback.jobs = job kind .closing 0 :: [] ∧ (d.scope.get .p0).state = state ∧
      (d.scope.get .p0).stack.length = depth ∧ (d.host.get .p0).markIndex = some 0 ∧
      (d.host.get .p0).queue[0]? = some (entry (mark 2#2 1#3) .marker) ∧ d.part = .running) ∧
    (∀ level, (rollbackItem level).source = .rollback ∧ (rollbackItem level).level = level ∧
      (rollbackItem level).port = .p0 ∧ (rollbackItem level).record = .close (job .all .closing 0).cause) ∧
    (∀ kind, (job kind .closing 0).port = .p0 ∧ (job kind .closing 0).phase = .closing ∧ (job kind .closing 0).kind = kind) ∧
    2 ≤ 2 ∧ 2 ≤ 4 ∧ 4 ≤ 4 ∧ { rolling .all 2 2 .unwinding with part := .stopping }.part = .stopping :=
  ⟨fun _ _ _ _ => ⟨⟨_, _, _, append_ends _ _ 0, rfl, rfl⟩, rfl, rfl, List.length_replicate, rfl, rfl, rfl⟩,
    fun _ => ⟨rfl, rfl, rfl, rfl⟩, fun _ => ⟨rfl, rfl, rfl⟩, by decide, by decide, by decide, rfl⟩

theorem witness_ImageRecordDurable :
    let d := ending (queued (claimed part ⟨9000, .p0, true, noImages⟩) [entry (write 9000#26) .append]) imageItem 2
    (∃ n o a, AppendEnds d n o a ∧ a.item = imageItem) ∧ imageItem.source = .write ∧
    imageItem.record = .image 9000 0xAB#512 ∧ imageItem.port = .p0 ∧ (d.host.get .p0).lineIndex 9000 = some 0 ∧
    (d.host.get .p0).queue[0]? = some (entry (write 9000#26) .append) ∧
    ClaimedAt d.claims 9000 0 ⟨9000, .p0, true, noImages⟩ :=
  ⟨⟨_, _, _, append_ends _ imageItem 2, rfl⟩, rfl, rfl, rfl, rfl, rfl, claimed_zero part ⟨9000, .p0, true, noImages⟩⟩

/-- A marker's CLOSE in progress with the IMAGE of a write behind it, its entry new or with an image; an IMAGE in progress; a
closing record of recovery. -/
theorem witness_AppendWriteFails :
    let close := entry (mark 1#2 1#3) .marker
    let d := ending { queued (claimed part ⟨9000, .p0, true, noImages⟩) [close, entry (write 9000#26) .append] with
      journal := { part.journal with queue := [imageItem] } } closeItem 0
    let closing : Item := ⟨.recovery, .p0, 1, 7#16, .close .abandonedRecovery⟩
    (d.array.outstanding = some ⟨.readLine 4256, .journal, 3#4, 50#8⟩ ∧ d.journal.append = some ⟨closeItem, 0, 320, []⟩ ∧
      d.journal.queue = imageItem :: []) ∧
    (closeItem.source = .marker ∧ (d.host.get closeItem.port).markIndex = some 0 ∧
      (d.host.get .p0).queue[0]? = some close ∧ close.withheld = false) ∧
    (imageItem.source = .write ∧ imageItem.record = .image 9000 0xAB#512 ∧
      (d.host.get imageItem.port).lineIndex 9000 = some 1 ∧
      (d.host.get .p0).queue[1]? = some (entry (write 9000#26) .append)) ∧
    ClaimedAt d.claims 9000 0 ⟨9000, .p0, true, noImages⟩ ∧ d.claims.slots[(255 : Fin 256)] = none ∧
    ClaimedAt (claimed d ⟨9000, .p0, true, ⟨some 300, none, none, none⟩⟩).claims 9000 0
      ⟨9000, .p0, true, ⟨some 300, none, none, none⟩⟩ ∧
    ((ending d imageItem 0).journal.append = some ⟨imageItem, 0, 320, []⟩) ∧
    (closing.source = .recovery ∧ { ending d closing 0 with part := .recovering }.part = .recovering ∧
      (ending d closing 0).journal.append = some ⟨closing, 0, 320, []⟩) :=
  ⟨⟨rfl, rfl, rfl⟩, ⟨rfl, rfl, rfl, rfl⟩, ⟨rfl, rfl, rfl, rfl⟩, claimed_zero part _, rfl, claimed_zero _ _, rfl, rfl, rfl,
    rfl⟩

/-- A CLOSE of a job of port 0 in progress and one queued, for a host ABANDON and for a FORCE ABANDON; a level-1 CLOSE whose
timer, at its limit or below it, runs again, is kept by a pending abandon or by STOPPING. -/
theorem witness_AppendWriteFails_engines :
    (∀ kind depth state, let d := rolling kind depth 1 state
      d.array.outstanding = some ⟨.readLine 4256, .journal, 3#4, 50#8⟩ ∧
      d.journal.append = some ⟨rollbackItem 1, 0, 320, []⟩ ∧ d.journal.queue = [] ∧
      d.rollback.jobs = [job kind .closing 0] ∧ (d.host.get .p0).markIndex = some 0 ∧
      (d.host.get .p0).queue[0]? = some (entry (mark 2#2 1#3) .marker)) ∧
    ((rollbackItem 1).source = .rollback ∧ (rollbackItem 1).port = .p0 ∧ (entry (mark 2#2 1#3) .marker).withheld = false) ∧
    { rolling .all 2 2 .unwinding with link := ⟨.working (.force .p0), 3#4, [], false⟩ }.link.slot =
      .working (.force .p0) ∧
    (closeItem.source = .marker ∧ closeItem.record = .close .committed ∧ closeItem.level = 1 ∧ closeItem.port = .p0) ∧
    (∀ age action pending, let d := ending { part with scope := ⟨{ part.scope.p0 with
        scopeLimit := 100#16, age := age, scopeAction := action, pendingAbandon := pending }, part.scope.p1⟩ } closeItem 0
      d.journal.queue = [] ∧ (d.scope.get .p0).pendingAbandon = pending ∧ d.part = .running ∧
      (d.scope.get .p0).scopeLimit = 100#16 ∧ (d.scope.get .p0).age = age ∧ (d.scope.get .p0).expired = false ∧
      (d.scope.get .p0).scopeAction = action ∧ (d.scope.get .p0).state = .active ∧ d.rollback.jobs = []) ∧
    (100#16 ≠ 0#16 ∧ (100#16 : BitVec 16).toNat ≤ 100 ∧ ¬(100#16 : BitVec 16).toNat ≤ 99) :=
  ⟨fun _ _ _ => ⟨rfl, rfl, rfl, rfl, rfl, rfl⟩, ⟨rfl, rfl, rfl⟩, rfl, ⟨rfl, rfl, rfl, rfl⟩,
    fun _ _ _ => ⟨rfl, rfl, rfl, rfl, rfl, rfl, rfl, rfl, rfl⟩, by decide⟩

/-! ## Witnesses: tables, rollback, forced abandons -/

/-- Levels 4 and 2: an image that moves down, one that is dropped, another port's entry and a free slot. -/
theorem witness_MergeMovesOrDropsImages :
    let merged (level : Nat) : Item := ⟨.marker, .p0, level, 8#16, .close .merged⟩
    (∀ d level, (∃ n o a, AppendEnds (ending d (merged level) 0) n o a ∧ a.item = merged level) ∧
      (ending d (merged level) 0).claims = d.claims) ∧
    (∀ level, (merged level).source = .marker ∧ (merged level).record = .close .merged ∧ (merged level).port = .p0 ∧
      (merged level).level = level) ∧
    let moves : Claim := ⟨9000, .p0, false, ⟨none, none, none, some 300⟩⟩
    let drops : Claim := ⟨9000, .p0, false, ⟨some 300, some 303, none, none⟩⟩
    2 ≤ 4 ∧ 4 ≤ 4 ∧ (claimed part moves).claims.slots[(0 : Fin 256)] = some moves ∧ moves.port = .p0 ∧
    imageAt moves.images 4 = some 300 ∧ imageAt moves.images 3 = none ∧
    (claimed part drops).claims.slots[(0 : Fin 256)] = some drops ∧ imageAt drops.images 2 = some 303 ∧
    imageAt drops.images 1 = some 300 ∧ moves.port ≠ .p1 ∧ part.claims.slots[(255 : Fin 256)] = none :=
  ⟨fun _ _ => ⟨⟨_, _, _, append_ends _ _ 0, rfl⟩, rfl⟩, fun _ => ⟨rfl, rfl, rfl, rfl⟩, by decide, by decide, rfl, rfl, rfl,
    rfl, rfl, rfl, rfl, by decide, rfl⟩

/-- Line 8192 at the first line of region 0, line 13311 at the last of region 3 (region 1 covers it first), line 0 in no
enabled region. -/
theorem witness_FirstEnabledRegionDecides :
    let covers (line : Nat) (i : Fin 8) : Bool :=
      regions.entries[i].enabled && decide (regions.entries[i].first ≤ line) && decide (line ≤ regions.entries[i].last)
    covers 8192 0 = true ∧ covers 13311 0 = false ∧ covers 13311 1 = true ∧ covers 13311 3 = true ∧
    ∀ i : Fin 8, covers 0 i = false := by decide +kernel

theorem witness_OneClaimForALine : ClaimInv part.claims ∧ ClaimInv (claimed part ⟨9000, .p1, true, noImages⟩).claims := by
  constructor
  · intro i j x y h
    simp [part, Device.cleared, ClaimTable.cleared] at h
  · have at0 : ∀ (i : Fin 256) x, (claimed part ⟨9000, .p1, true, noImages⟩).claims.slots[i] = some x → i = 0 := by
      intro i x h
      by_contra hne
      have h0 : (0 : Nat) ≠ i.val := fun h0 => hne (Fin.ext h0.symm)
      simp [claimed, h0] at h
    intro i j x y hi hj _
    rw [at0 i x hi, at0 j y hj]

/-- The last slot, the last cell of the journal. -/
theorem witness_RollbackJobIsTaken :
    let c : Claim := ⟨9000, .p0, false, ⟨some 8191, none, none, none⟩⟩
    let d : Device := { part with
      claims := ⟨(Vector.replicate 256 none).set 255 (some c)⟩, rollback := ⟨[job (.level 1) .waiting 255], none⟩ }
    (d.rollback.jobs = job (.level 1) .waiting 255 :: [] ∧ d.part = .running ∧ d.journal.faulted = false ∧
      d.claims.slots[(255 : Fin 256)] = some c ∧ c.port = .p0 ∧ imageAt c.images 1 = some 8191 ∧ 255 ≤ 255 ∧
      c.images ≠ ⟨none, none, none, none⟩ ∧ ((c.images.l1.or c.images.l2).or (c.images.l3.or c.images.l4)) = some 8191) ∧
    (∀ k : Fin 256, k < 255 → 255 ≤ k.val → False) ∧
    (∀ k : Fin 256, ∀ x, part.claims.slots[k] = some x → x.port ≠ .p0) ∧
    (1 ≤ 1 ∧ 1 ≤ (part.scope.get .p0).stack.length) ∧ (faulted d).journal.faulted = true ∧
    (let m := queued (faulted d) [entry (mark 2#2 1#3) .marker];
      (m.host.get .p0).markIndex = some 0 ∧ (m.host.get .p0).queue[0]? = some (entry (mark 2#2 1#3) .marker)) ∧
    (job (.level 1) .waiting 255).kind = .level 1 ∧ (job .all .waiting 255).kind = .all := by
  refine ⟨by decide +kernel, ?_, ?_, by decide, rfl, ⟨rfl, rfl⟩, rfl, rfl⟩
  · intro k h1 h2
    have : k.val < 255 := h1
    omega
  · intro k x h
    simp [part, Device.cleared, ClaimTable.cleared] at h

/-- The job of port 0 restoring line 9000 from cell 320, at a step. -/
def restoring (kind : JobKind) (step : RestoreStep) : Device :=
  waitingFor { claimed part ⟨9000, .p0, false, ⟨some 320, none, none, none⟩⟩ with
    rollback := ⟨[job kind .restoring 0], some ⟨0, 9000, 320, step⟩⟩ } .rollback (.readLine 4256)

/-- The fields of two runs of bits put together are those of the lower run, or the upper run itself. -/
theorem extract_low {m n : Nat} (x : BitVec m) (y : BitVec n) (start len : Nat) (h : start + len ≤ n) :
    (x ++ y).extractLsb' start len = y.extractLsb' start len := by
  ext i hi
  have h1 : start + i < n := by omega
  simp [BitVec.getElem_extractLsb', BitVec.getLsbD_append, h1]

theorem extract_high {m n : Nat} (x : BitVec m) (y : BitVec n) : (x ++ y).extractLsb' n m = x := by
  ext i hi
  simp [BitVec.getElem_extractLsb', BitVec.getLsbD_append, hi]

theorem halfOf_joinCells (x y : CellData) :
    halfOf (joinCells x y) false = x ∧ halfOf (joinCells x y) true = y := by
  refine ⟨?_, extract_high y x⟩
  refine (extract_low y x 0 256 (Nat.le_refl _)).trans ?_
  exact BitVec.extractLsb'_eq_self

/-- The header of an IMAGE of line 9000 in port 0, its check aside. -/
def imageHeader : Header :=
  { kind := 2#8, port := 0#8, level := 1#8, code := 0#8, epoch := 1#16, serial := 7#16, sequence := 9040#32,
    prior := 300#32, target := 9000#32, length := 3#8, zero := 0#56, check := 0#32 }

theorem read_header (h : Header) (zero : h.check = 0#32) (rest : decodeHeader (encodeHeader h) = h) (check : BitVec 32) :
    decodeHeader (encodeHeader { h with check := check }) = { h with check := check } := by
  have split : ∀ rest : BitVec 224, decodeHeader (check ++ rest) =
      { decodeHeader (0#32 ++ rest) with check := check } := by
    intro rest
    simp (disch := decide) only [decodeHeader, extract_low, extract_high]
  refine (split _).trans ?_
  have zeroed : decodeHeader (encodeHeader { h with check := 0#32 }) = h := by
    rw [← zero]
    exact rest
  exact congrArg (fun h : Header => { h with check := check }) zeroed

theorem read_image_header (check : BitVec 32) :
    decodeHeader (encodeHeader { imageHeader with check := check }) = { imageHeader with check := check } :=
  read_header imageHeader rfl (by decide +kernel) check

theorem recordCheck_check (h : Header) (check : BitVec 32) (body : Option LineData) :
    recordCheck { h with check := check } body = recordCheck h body := rfl

/-- A record whose checks hold and one whose kind is 0, each step, kind and end. -/
theorem witness_RestoreReadsChecksAndWrites :
    let o : Outstanding := ⟨.readLine 4256, .rollback, 3#4, 50#8⟩
    let hand (step : RestoreStep) : InHand := ⟨0, 9000, 320, step⟩
    (∀ kind step, (restoring kind step).array.outstanding = some o ∧
      (restoring kind step).rollback = ⟨job kind .restoring 0 :: [], some (hand step)⟩ ∧
      (restoring kind step).claims.slots[(0 : Fin 256)] = some ⟨9000, .p0, false, ⟨some 320, none, none, none⟩⟩) ∧
    o.requester = .rollback ∧ (∀ kind, (job kind .restoring 0).phase = .restoring) ∧
    (∃ first data : LineData,
      let header := decodeHeader (headerCell 320 first)
      header.kind = 2#8 ∧ header.length = 3#8 ∧ header.target.toNat = 9000 ∧
      header.check = recordCheck header (some (imageBody 320 first data))) ∧
    (decodeHeader (headerCell 320 0#512)).kind ≠ 2#8 ∧
    part.part ≠ .stopping ∧ { part with part := .stopping }.part = .stopping := by
  refine ⟨fun _ _ => ⟨rfl, rfl, rfl⟩, rfl, fun _ => rfl, ?_, by decide +kernel, by decide, rfl⟩
  obtain ⟨check, hc⟩ : ∃ check, check = recordCheck imageHeader (some 0#512) := ⟨_, rfl⟩
  refine ⟨joinCells (encodeHeader { imageHeader with check := check }) 0#256, 0#512, ?_⟩
  have cell : headerCell 320 (joinCells (encodeHeader { imageHeader with check := check }) 0#256) =
      encodeHeader { imageHeader with check := check } := (halfOf_joinCells _ _).1
  have body : imageBody 320 (joinCells (encodeHeader { imageHeader with check := check }) 0#256) 0#512 = 0#512 := by
    show joinCells (halfOf _ true) _ = _
    rw [(halfOf_joinCells _ _).2]
    decide +kernel
  simp only [cell, body, read_image_header, recordCheck_check]
  exact ⟨rfl, rfl, by decide, hc⟩

/-- After slot 0, an entry of the other port and one without an image at level 4, then the next line of a job "level 4" or
"all levels", in the last slot. -/
def laterSlots : Vector (Option Claim) 256 :=
  (((Vector.replicate 256 none).set 1 (some ⟨9001, .p1, false, ⟨none, none, none, some 323⟩⟩)).set 2
    (some ⟨9002, .p0, true, noImages⟩)).set 255 (some ⟨9003, .p0, false, ⟨none, none, none, some 326⟩⟩)

theorem witness_RestoreReadsChecksAndWrites_next :
    laterSlots[(255 : Fin 256)] = some ⟨9003, .p0, false, ⟨none, none, none, some 326⟩⟩ ∧ (0 : Fin 256) < 255 ∧
    (∀ k : Fin 256, 0 < k → k < 255 → ∀ x, laterSlots[k] = some x → ¬(x.port = .p0 ∧ imageAt x.images 4 ≠ none)) ∧
    (∀ k : Fin 256, 0 < k → k < 255 → ∀ x, laterSlots[k] = some x → ¬(x.port = .p0 ∧ x.images ≠ ⟨none, none, none, none⟩)) ∧
    imageAt (⟨none, none, none, some 326⟩ : Images) 4 = some 326 ∧
    (faulted (restoring (.level 4) .write)).journal.faulted = true ∧
    (restoring (.level 1) .write).journal.faulted = false ∧ (1 ≤ 1 ∧ 1 ≤ ((restoring .all .write).scope.get .p0).stack.length) ∧
    (∀ k : Fin 256, 0 < k → (restoring (.level 1) .write).claims.slots[k] = none) ∧
    (let m := queued { restoring (.level 4) .write with part := .stopping } [entry (mark 2#2 4#3) .marker];
      (m.host.get .p0).markIndex = some 0 ∧ (m.host.get .p0).queue[0]? = some (entry (mark 2#2 4#3) .marker)) := by
  have between : ∀ k : Fin 256, 0 < k → k < 255 → ∀ x, laterSlots[k] = some x →
      ¬(x.port = .p0 ∧ x.images ≠ ⟨none, none, none, none⟩) := by
    intro k h0 h1 x hx
    have h1 : k.val < 255 := h1
    have h255 : ¬(255 = k.val) := by omega
    by_cases h2 : 2 = k.val
    · simp [laterSlots, h255, h2] at hx
      subst hx
      simp [noImages]
    · by_cases h3 : 1 = k.val
      · simp [laterSlots, h255, h2, h3] at hx
        subst hx
        simp
      · simp [laterSlots, h255, h2, h3] at hx
  refine ⟨by decide +kernel, by decide, ?_, between, rfl, rfl, rfl, ⟨by decide, by decide⟩, ?_, rfl, rfl⟩
  · rintro k h0 h1 x hx ⟨hp, hi⟩
    refine between k h0 h1 x hx ⟨hp, fun h => hi ?_⟩
    rw [h]
    rfl
  · intro k hk
    have h0 : ¬(0 = k.val) := by
      have : 0 < k.val := hk
      omega
    simp [restoring, waitingFor, claimed, h0]

/-- Port 0 with its timer at its limit and a pending abandon, in a state at a depth. -/
def timed (state : PortState) (stack : List ScopeEntry) (action : TimerAction) (pending : Option AbandonCause) : Device :=
  { part with scope := ⟨{ part.scope.p0 with
      state := state, stack := stack, scopeAction := action, pendingAbandon := pending, running := true,
      scopeLimit := 100#16, age := 100 }, part.scope.p1⟩ }

theorem witness_ForcedAbandonsAreTakenAndSettled :
    (∀ state stack action pending,
      let d := timed state stack action pending
      d.part = .running ∧ (d.scope.get .p0).running = true ∧ (d.scope.get .p0).scopeLimit ≠ 0#16 ∧
      (d.scope.get .p0).scopeLimit.toNat ≤ (d.scope.get .p0).age ∧ (d.scope.get .p0).expired = false ∧
      (d.scope.get .p0).scopeAction = action ∧ (d.scope.get .p0).state = state ∧ (d.scope.get .p0).stack = stack ∧
      (d.scope.get .p0).pendingAbandon = pending ∧ d.rollback.jobs = [] ∧ (d.host.get .p0).hrst = false ∧
      (∀ e ∈ (d.host.get .p0).queue, isBegun e = false) ∧ d.journal.faulted = false) ∧
    ¬(part.scope.get .p0).running = true ∧
    ¬(∀ e ∈ ((queued part [entry (read 9000#26) .readAccess]).host.get .p0).queue, isBegun e = false) ∧
    (faulted part).journal.faulted = true ∧ { part with part := .stopping }.part ≠ .running ∧
    (∀ state, let d := lined true state
      (d.scope.get .p0).state = state ∧ ¬((d.host.get .p0).hrst = false ∧ ∀ j ∈ d.rollback.jobs, j.port ≠ .p0)) ∧
    { part with link := ⟨.working (.force .p0), 3#4, [], false⟩ }.link.slot = .working (.force .p0) := by
  refine ⟨fun _ _ _ _ => ⟨rfl, rfl, (by decide : (100#16 : BitVec 16) ≠ 0#16), Nat.le_refl 100, rfl, rfl, rfl, rfl, rfl, rfl, rfl, ?_, rfl⟩,
    by decide, by decide, rfl, by decide, fun _ => ⟨rfl, fun h => (nomatch h.1)⟩, rfl⟩
  intro e he; cases he

/-! ## Witnesses: the anchor unit -/

theorem witness_AnchorUpdateBegins :
    let a : AnchorUnit := { part.anchor with writerReq := .pending, generation := 0xFFFFFFFF#32 }
    a.update = none ∧ a.format = none ∧ { part with part := .recovering }.part ≠ .stopping ∧
    { part with part := .recovering }.part ≠ .safe ∧ a.writerReq = .pending ∧
    ¬(part.anchor.writerReq = .pending ∨ part.anchor.linkReq = .pending ∨ part.anchor.recoveryReq = .pending) := by decide

/-- A copy write in progress, its first or its second line outstanding. -/
def copyWrite (purpose : Purpose) (second : Bool) : Device :=
  waitingFor { part with
      anchor := { part.anchor with update := some ⟨.b, 0#32, setup, purpose, second⟩, linkReq := .covered }
      link := ⟨.working .update, 3#4, [], false⟩ } .anchor (.readLine 2)

theorem witness_AnchorUpdateEnds :
    ∀ second, (copyWrite .running second).array.outstanding = some ⟨.readLine 2, .anchor, 3#4, 50#8⟩ ∧
      (copyWrite .running second).anchor.cold = none ∧
      (copyWrite .running second).anchor.update = some ⟨.b, 0#32, setup, .running, second⟩ ∧
      (copyWrite .running second).anchor.recoveryReq ≠ .covered ∧
      ∀ p, (copyWrite .running second).link.slot ≠ .working (.force p) := by
  intro second
  refine ⟨rfl, rfl, rfl, ?_, ?_⟩
  · intro h
    cases h
  · intro p h
    cases h

theorem witness_FormatWritesANewJournal :
    let f : Format := ⟨2 ^ 26, 2 ^ 26 - 256, 256, 503, .unformatted⟩
    let d := copyWrite (.format .stopping) true
    let e : Device := { d with link := { d.link with slot := .working .format } }
    ({ part.anchor with format := some f }.format = some f ∧ part.anchor.update = none ∧ part.part ≠ .stopping ∧
      part.part ≠ .safe) ∧ part.anchor.format = none ∧
    (e.array.outstanding = some ⟨.readLine 2, .anchor, 3#4, 50#8⟩ ∧ e.anchor.cold = none ∧
      e.anchor.update = some ⟨.b, 0#32, setup, .format .stopping, true⟩ ∧ e.link.slot = .working .format) ∧
    (∀ state second, (copyWrite (.format state) second).anchor.update = some ⟨.b, 0#32, setup, .format state, second⟩ ∧
      (copyWrite (.format state) second).journal.queue = []) ∧
    (copyWrite (.format .unformatted) true).journal.faulted = false ∧
    (faulted (copyWrite (.format .failed) true)).journal.faulted = true := by
  refine ⟨⟨rfl, rfl, by decide, by decide⟩, rfl, ⟨rfl, rfl, rfl, rfl⟩, fun _ _ => ⟨rfl, rfl⟩, rfl, rfl⟩

theorem join_halves (z : BitVec 1024) : z.extractLsb' 512 512 ++ z.extractLsb' 0 512 = z := by
  ext i hi
  rw [← BitVec.getLsbD_eq_getElem, ← BitVec.getLsbD_eq_getElem, BitVec.getLsbD_append]
  by_cases h : i < 512
  · simp [h]
  · have h1 : i - 512 < 512 := by omega
    have h2 : 512 + (i - 512) = i := by omega
    simp [h, h1, h2]

theorem bytesOf_low {m n : Nat} (x : BitVec m) (y : BitVec n) (k : Nat) (h : 8 * k ≤ n) :
    bytesOf k (x ++ y) = bytesOf k y := by
  unfold bytesOf
  refine List.map_congr_left fun i hi => extract_low x y (8 * i) 8 ?_
  have := List.mem_range.1 hi
  omega

/-- The copy with the values at the edges of Table 7-1 is valid. -/
theorem setup_copy_valid :
    decodeCopy (copyLine (encodeCopy 0xFFFFFFFF#32 setup) false) (copyLine (encodeCopy 0xFFFFFFFF#32 setup) true) =
      some (0xFFFFFFFF#32, setup) := by
  have whole : copyLine (encodeCopy 0xFFFFFFFF#32 setup) true ++ copyLine (encodeCopy 0xFFFFFFFF#32 setup) false =
      crc32 (bytesOf 124 (encodeCopyBody 0xFFFFFFFF#32 setup)) ++ encodeCopyBody 0xFFFFFFFF#32 setup := join_halves _
  have fields : ∀ (check : BitVec 32) (body : BitVec 992), decodeFields (check ++ body) = decodeFields (0#32 ++ body) := by
    intro check body
    simp (disch := decide) only [decodeFields, extract_low]
  have body : decodeFields (0#32 ++ encodeCopyBody 0xFFFFFFFF#32 setup) = some setup := by decide +kernel
  have marker : (encodeCopyBody 0xFFFFFFFF#32 setup).extractLsb' 0 32 = Config.formatMarker := by decide +kernel
  have generation : (encodeCopyBody 0xFFFFFFFF#32 setup).extractLsb' 32 32 = 0xFFFFFFFF#32 := by decide +kernel
  have ranges : setup.inRange = true := by decide
  unfold decodeCopy
  simp only [whole]
  generalize encodeCopyBody 0xFFFFFFFF#32 setup = b at body marker generation ⊢
  rw [extract_low _ _ 0 32 (by decide), extract_low _ _ 32 32 (by decide), extract_high, bytesOf_low _ _ _ (by decide),
    fields, body, marker, generation]
  simp [ranges]

theorem blank_copy_invalid : decodeCopy 0#512 0#512 = none := by
  have marker : (0#512 ++ 0#512 : BitVec 1024).extractLsb' 0 32 = Config.formatMarker ↔ False := by decide +kernel
  unfold decodeCopy
  simp only [marker, false_and, if_false]

/-- Copy A valid with copy B blank or not read, a read of its first or second line in error; no copy valid. -/
theorem select_first (x y z w : LineData) (g : BitVec 32) (v : Setup) (first : decodeCopy x y = some (g, v))
    (second : decodeCopy z w = none) :
    selectCopy (coldCopy (some x) (some y)) (coldCopy (some z) (some w)) = some (.a, g, v, false) ∧
    selectCopy (coldCopy (some x) (some y)) (coldCopy none (some w)) = some (.a, g, v, false) ∧
    selectCopy (coldCopy none none) (coldCopy none (some w)) = none ∧
    selectCopy (coldCopy (some x) (some y)) (coldCopy (some z) none) = some (.a, g, v, false) ∧
    selectCopy (coldCopy none none) (coldCopy (some z) none) = none := by
  simp only [coldCopy, first, second, selectCopy, and_self]

/-- The reads of COLD answered with copy A valid, all without error or one with an error; and with no copy valid. -/
theorem witness_AnchorSelectionEndsCold :
    let d (r0 r1 r2 : Option LineData) : Device :=
      { waitingFor part .anchor (.readLine 3) with
        part := .cold, anchor := { AnchorUnit.cleared with cold := some [r0, r1, r2] } }
    (∀ r0 r1 r2, (d r0 r1 r2).array.outstanding = some ⟨.readLine 3, .anchor, 3#4, 50#8⟩ ∧
      (d r0 r1 r2).anchor.cold = some [r0, r1, r2] ∧ (d r0 r1 r2).part = .cold) ∧
    ∃ x y, selectCopy (coldCopy (some x) (some y)) (coldCopy (some 0#512) (some 0#512)) =
        some (.a, 0xFFFFFFFF#32, setup, false) ∧
      selectCopy (coldCopy (some x) (some y)) (coldCopy none (some 0#512)) = some (.a, 0xFFFFFFFF#32, setup, false) ∧
      selectCopy (coldCopy none none) (coldCopy none (some 0#512)) = none ∧
      selectCopy (coldCopy (some x) (some y)) (coldCopy (some 0#512) none) = some (.a, 0xFFFFFFFF#32, setup, false) ∧
      selectCopy (coldCopy none none) (coldCopy (some 0#512) none) = none :=
  ⟨fun _ _ _ => ⟨rfl, rfl, rfl⟩, _, _, select_first _ _ _ _ _ _ setup_copy_valid blank_copy_invalid⟩

/-- The copy with the values at the edges of Table 7-1 meets every condition of R113; a blank one has no format marker. -/
theorem witness_AnchorSelectionEndsCold_valid :
    let c : BitVec 1024 :=
      copyLine (encodeCopy 0xFFFFFFFF#32 setup) true ++ copyLine (encodeCopy 0xFFFFFFFF#32 setup) false
    let word (byte : Nat) : Nat := (c.extractLsb' (8 * byte) 32).toNat
    (c.extractLsb' 0 32 = 0x4B574A40#32 ∧ c.extractLsb' 992 32 = crc32 (bytesOf 124 c) ∧ c.extractLsb' 64 16 ≠ 0#16 ∧
      c.extractLsb' 80 8 ≠ 0#8 ∧ (c.extractLsb' 88 8).toNat ≤ 2 ∧ 1 ≤ word 12 ∧ word 12 ≤ 2 ^ 26 ∧ 4 ≤ word 16 ∧
      256 ≤ word 20 ∧ word 20 ≤ 262144 ∧ word 24 < 2 * word 20 ∧ word 32 ≤ 2 * word 20 - 9 ∧
      (c.extractLsb' 304 8).toNat ≤ 1 ∧ (c.extractLsb' 336 8).toNat ≤ 1 ∧
      (∀ i : Fin 8, c.extractLsb' (8 * (44 + 9 * i.val + 8)) 2 ≠ 3#2) ∧ word 16 + word 20 ≤ word 12) ∧
    (0#512 ++ 0#512 : BitVec 1024).extractLsb' 0 32 ≠ 0x4B574A40#32 := by
  have whole : copyLine (encodeCopy 0xFFFFFFFF#32 setup) true ++ copyLine (encodeCopy 0xFFFFFFFF#32 setup) false =
      crc32 (bytesOf 124 (encodeCopyBody 0xFFFFFFFF#32 setup)) ++ encodeCopyBody 0xFFFFFFFF#32 setup := join_halves _
  intro c word
  have low : ∀ start len, start + len ≤ 992 →
      c.extractLsb' start len = (encodeCopyBody 0xFFFFFFFF#32 setup).extractLsb' start len := by
    intro start len h
    show (copyLine _ true ++ copyLine _ false : BitVec 1024).extractLsb' start len = _
    rw [whole]
    exact extract_low _ _ _ _ h
  have check : c.extractLsb' 992 32 = crc32 (bytesOf 124 c) := by
    show (copyLine _ true ++ copyLine _ false : BitVec 1024).extractLsb' 992 32 = crc32 (bytesOf 124 (copyLine _ true ++ copyLine _ false))
    rw [whole, extract_high, bytesOf_low _ _ _ (by decide)]
  have region : ∀ i : Fin 8, c.extractLsb' (8 * (44 + 9 * i.val + 8)) 2 ≠ 3#2 := by
    intro i
    rw [low _ _ (by omega)]
    revert i
    decide +kernel
  refine ⟨⟨?_, check, ?_, ?_, ?_, ?_, ?_, ?_, ?_, ?_, ?_, ?_, ?_, ?_, region, ?_⟩, by decide +kernel⟩
  all_goals
    simp (disch := decide) only [word, low]
    decide +kernel

/-- Each read of COLD before the last, and a read answered in STOPPING. -/
theorem witness_AnchorSelectionEndsCold_reads :
    let d (state : PartState) (reads : List (Option LineData)) : Device :=
      { waitingFor part .anchor (.readLine 2) with
        part := state, anchor := { AnchorUnit.cleared with cold := some reads } }
    (∀ state reads, (d state reads).array.outstanding = some ⟨.readLine 2, .anchor, 3#4, 50#8⟩ ∧
      (d state reads).anchor.cold = some reads ∧ (d state reads).part = state) ∧
    ([] : List (Option LineData)).length < 3 ∧ [none, some (0#512 : LineData)].length < 3 :=
  ⟨fun _ _ => ⟨rfl, rfl, rfl⟩, by decide, by decide⟩

/-! ## Witnesses: recovery, SAFE -/

theorem witness_ScanRecordsAreMatched :
    let open1 : Header := { imageHeader with kind := 1#8, prior := 0xFFFFFFFF#32 }
    let close : Header := { imageHeader with kind := 3#8, code := 2#8 }
    let idle := ScanPort.cleared
    let first : ScanPort := ⟨true, [⟨1, 7#16, 300, 9020#32⟩], some 300, some 7#16⟩
    let closed : ScanPort := ⟨true, [], none, some 7#16⟩
    open1.kind = 1#8 ∧ imageHeader.kind = 2#8 ∧ close.kind = 3#8 ∧
    (idle.started = false ∧ idle.stack = [] ∧ open1.level.toNat = 1) ∧
    (first.started = true ∧ first.stack = ⟨1, 7#16, 300, 9020#32⟩ :: []) ∧ (closed.started = true ∧ closed.stack = []) := by
  decide

/-- The recovery engine in a phase at a cell, its access outstanding. -/
def scanning (phase : RecoveryPhase) (pos : Nat) (ports : PerPort ScanPort) : Device :=
  { waitingFor part .recovery (.readLine 4256) with
    part := .recovering
    recovery := { RecoveryEngine.cleared with phase := phase, pos := pos, expected := 9040#32, ports := ports } }

def openHeader : Header :=
  { imageHeader with kind := 1#8, prior := 0xFFFFFFFF#32, target := 0#32, length := 1#8 }
def padHeader : Header :=
  { imageHeader with kind := 4#8, level := 0#8, serial := 0#16, prior := 0xFFFFFFFF#32, target := 0#32, length := 1#8 }

/-- A line that holds a header with its check in both cells. -/
theorem line_of_header (h : Header) (zero : h.check = 0#32) (rest : decodeHeader (encodeHeader h) = h) (c : Nat)
    (body : Option LineData) :
    ∃ line, decodeHeader (headerCell c line) = { h with check := recordCheck h body } := by
  obtain ⟨cell, hc⟩ : ∃ cell, cell = encodeHeader { h with check := recordCheck h body } := ⟨_, rfl⟩
  refine ⟨joinCells cell cell, ?_⟩
  have both : headerCell c (joinCells cell cell) = cell := by
    unfold headerCell
    cases c % 2 == 1
    · exact (halfOf_joinCells cell cell).1
    · exact (halfOf_joinCells cell cell).2
  rw [both, hc]
  exact read_header h zero rest _

theorem accepts {d : Device} {h : Header} {body : Option LineData} (fits : HeaderFits d d.recovery.pos h)
    (sequence : h.sequence = d.recovery.expected) (fields : FieldsInRange d h)
    (room : d.recovery.cells + h.length.toNat < 2 * d.journal.lines) :
    Accepted d { h with check := recordCheck h body } body := ⟨fits, sequence, rfl, fields, room⟩

theorem chained {d : Device} {p : Port} {c : Nat} {h : Header} {body : Option LineData} (fits : HeaderFits d c h)
    (fields : FieldsInRange d h) (port : h.port.toNat = p.num) :
    OnChain d p c { h with check := recordCheck h body } body := ⟨fits, rfl, fields, port⟩

/-- The scan state of a port with one open level, whose OPEN stands at cell 300. -/
def openTree : ScanPort := ⟨true, [⟨1, 7#16, 300, 9020#32⟩], some 300, some 7#16⟩

/-- At cell 320 an OPEN, which begins a tree or, with one open, does not match; an IMAGE, and one of another sequence; at the
last cell a PAD; and a line of zeros, with every pair of scan stacks. -/
theorem witness_ScanRecordsAreMatched_scan :
    (∀ phase pos ports, let d := scanning phase pos ports
      d.array.outstanding = some ⟨.readLine 4256, .recovery, 3#4, 50#8⟩ ∧ d.part = .recovering ∧
      d.recovery.phase = phase ∧ d.recovery.pos = pos ∧ d.recovery.ports = ports ∧ d.journal.tail = 300) ∧
    (∀ phase ports, (∃ data, decodeHeader (headerCell 320 data) = { openHeader with check := recordCheck openHeader none }) ∧
      Accepted (scanning phase 320 ports) { openHeader with check := recordCheck openHeader none } none) ∧
    openHeader.kind = 1#8 ∧ openHeader.port.toNat = Port.p0.num ∧
    (∃ s, matchRecord ScanPort.cleared 320 openHeader = some s) ∧ matchRecord openTree 320 openHeader = none ∧
    (∀ phase ports, (∃ data, decodeHeader (headerCell 8191 data) = { padHeader with check := recordCheck padHeader none }) ∧
      Accepted (scanning phase 8191 ports) { padHeader with check := recordCheck padHeader none } none) ∧
    padHeader.kind = 4#8 ∧ imageHeader.kind = 2#8 ∧
    (∀ body phase ports,
      (∃ data, decodeHeader (headerCell 320 data) = { imageHeader with check := recordCheck imageHeader (some body) }) ∧
      HeaderFits (scanning phase 320 ports) 320 imageHeader ∧
      Accepted (scanning phase 320 ports) { imageHeader with check := recordCheck imageHeader (some body) } (some body)) ∧
    imageHeader.sequence ≠ 0#32 ∧ (decodeHeader (headerCell 320 0#512)).kind = 0#8 ∧
    (openTree.stack ≠ [] ∧ openTree.last = some 300 ∧ ScanPort.cleared.stack = []) := by
  refine ⟨fun _ _ _ => ⟨rfl, rfl, rfl, rfl, rfl, rfl⟩, fun phase ports => ⟨?_, accepts ?_ rfl ?_ ?_⟩, rfl, rfl, ⟨_, rfl⟩, rfl,
    fun phase ports => ⟨?_, accepts ?_ rfl ?_ ?_⟩, rfl, rfl, fun body phase ports => ⟨?_, ?_, accepts ?_ rfl ?_ ?_⟩,
    by decide, by decide +kernel, by decide⟩
  · exact line_of_header openHeader rfl (by decide +kernel) 320 none
  · exact ⟨.inl ⟨.inl rfl, rfl⟩, rfl⟩
  · exact ⟨.inl rfl, (by decide : 1 ≤ 1 ∧ 1 ≤ 4), rfl, .inl rfl, fun h => absurd h (by decide)⟩
  · exact (by decide : 0 + 1 < 8192)
  · exact line_of_header padHeader rfl (by decide +kernel) 8191 none
  · exact ⟨.inr (.inr ⟨rfl, .inl rfl, rfl⟩), rfl⟩
  · exact ⟨.inl rfl, rfl, rfl, .inl rfl, fun h => absurd h (by decide)⟩
  · exact (by decide : 0 + 1 < 8192)
  · exact line_of_header imageHeader rfl (by decide +kernel) 320 (some body)
  · exact ⟨.inr (.inl ⟨rfl, rfl, (by decide : 320 + 3 ≤ 8192)⟩), rfl⟩
  · exact ⟨.inr (.inl ⟨rfl, rfl, (by decide : 320 + 3 ≤ 8192)⟩), rfl⟩
  · exact ⟨.inl rfl, (by decide : 1 ≤ 1 ∧ 1 ≤ 4), rfl, .inr (by decide : 300 < 8192), fun _ =>
      ⟨(by decide : 9000 < 1048576), (by decide : 4 ≤ 9000), fun h => absurd h.2 (by decide : ¬ 9000 < 4096 + 4096)⟩⟩
  · exact (by decide : 0 + 3 < 8192)

/-- An access of the recovery engine outstanding, in each phase; and the last line of the final update. -/
theorem witness_RecoveryFailsOrEndsInRunning :
    let d (phase : RecoveryPhase) : Device := scanning phase 320 ⟨openTree, openTree⟩
    let u := copyWrite .recovery true
    let e : Device := { u with part := .recovering, anchor := { u.anchor with recoveryReq := .covered } }
    (∀ phase, (d phase).array.outstanding = some ⟨.readLine 4256, .recovery, 3#4, 50#8⟩ ∧ (d phase).recovery.phase = phase) ∧
    (∃ x, e.array.outstanding = some x ∧ x.requester = .anchor) ∧ e.anchor.cold = none ∧
    e.anchor.update = some ⟨.b, 0#32, setup, .recovery, true⟩ ∧ e.anchor.recoveryReq = .covered ∧ e.part = .recovering :=
  ⟨fun _ => ⟨rfl, rfl⟩, ⟨_, rfl, rfl⟩, rfl, rfl, rfl, rfl⟩

/-- The walk of port 0 at its OPEN in cell 300, where the tree starts, with port 1's tree to follow or not; at a record in
another cell; at an IMAGE with a prior; and at a line of zeros. -/
theorem witness_RecoveryFailsOrEndsInRunning_walk :
    (∀ phase ports, let d := scanning phase 320 ports
      d.recovery.phase = phase ∧ d.recovery.ports = ports ∧ d.journal.treeStart.get .p0 = some ⟨300, 9020#32⟩ ∧
      d.journal.treeStart.get .p1 = some ⟨310, 9030#32⟩ ∧
      (∃ data, decodeHeader (headerCell 300 data) = { openHeader with check := recordCheck openHeader none }) ∧
      OnChain d .p0 300 { openHeader with check := recordCheck openHeader none } none ∧
      OnChain d .p0 301 { openHeader with check := recordCheck openHeader none } none ∧
      ∀ body, HeaderFits d 320 imageHeader ∧
        (∃ data, decodeHeader (headerCell 320 data) = { imageHeader with check := recordCheck imageHeader (some body) }) ∧
        OnChain d .p0 320 { imageHeader with check := recordCheck imageHeader (some body) } (some body)) ∧
    openHeader.prior = 0xFFFFFFFF#32 ∧ imageHeader.prior ≠ 0xFFFFFFFF#32 ∧ openHeader.kind ≠ 2#8 ∧
    (decodeHeader (headerCell 300 0#512)).kind = 0#8 ∧
    (openTree.stack = ⟨1, 7#16, 300, 9020#32⟩ :: [] ∧ openTree.last = some 300 ∧ ScanPort.cleared.stack = []) := by
  have opened : ∀ phase ports c, OnChain (scanning phase 320 ports) .p0 c
      { openHeader with check := recordCheck openHeader none } none := fun _ _ _ =>
    chained ⟨.inl ⟨.inl rfl, rfl⟩, rfl⟩
      ⟨.inl rfl, (by decide : 1 ≤ 1 ∧ 1 ≤ 4), rfl, .inl rfl, fun h => absurd h (by decide)⟩ rfl
  refine ⟨fun phase ports => ⟨rfl, rfl, rfl, rfl, line_of_header openHeader rfl (by decide +kernel) 300 none,
    opened phase ports 300, opened phase ports 301, fun body => ⟨?_, line_of_header imageHeader rfl (by decide +kernel) 320 (some body),
      chained ?_ ?_ rfl⟩⟩, rfl, by decide, by decide, by decide +kernel, rfl, rfl, rfl⟩
  · exact ⟨.inr (.inl ⟨rfl, rfl, (by decide : 320 + 3 ≤ 8192)⟩), rfl⟩
  · exact ⟨.inr (.inl ⟨rfl, rfl, (by decide : 320 + 3 ≤ 8192)⟩), rfl⟩
  · exact ⟨.inl rfl, (by decide : 1 ≤ 1 ∧ 1 ≤ 4), rfl, .inr (by decide : 300 < 8192), fun _ =>
      ⟨(by decide : 9000 < 1048576), (by decide : 4 ≤ 9000), fun h => absurd h.2 (by decide : ¬ 9000 < 4096 + 4096)⟩⟩

/-- The closing record of the one open level of port 0, of port 1 with the tree of port 0 closed, and of the last level; in
RECOVERING and in STOPPING; the head, at 321 then, apart from the anchored tail or at it. -/
theorem witness_RecoveryFailsOrEndsInRunning_closing :
    let closing (level : Nat) : Item := ⟨.recovery, .p0, level, 7#16, .close .abandonedRecovery⟩
    let d (state : PartState) (tail : Nat) (stack : List ScanEntry) (other : ScanPort) : Device :=
      let s := scanning (.closing .p0) 320 ⟨{ openTree with stack := stack }, other⟩
      { s with part := state, journal := { s.journal with tail := tail } }
    (∀ state tail stack other level,
      AppendEnds (ending (d state tail stack other) (closing level) 0) 3#4 ⟨.readLine 4256, .journal, 3#4, 50#8⟩
        ⟨closing level, 0, 320, []⟩ ∧
      (ending (d state tail stack other) (closing level) 0).part = state ∧
      (ending (d state tail stack other) (closing level) 0).recovery.ports = ⟨{ openTree with stack := stack }, other⟩ ∧
      (ending (d state tail stack other) (closing level) 0).journal.tail = tail) ∧
    ((closing 2).source = .recovery ∧ (closing 2).port = .p0 ∧ (closing 2).record = .close .abandonedRecovery) ∧
    ([⟨2, 8#16, 310, 9030#32⟩, ⟨1, 7#16, 300, 9020#32⟩] : List ScanEntry).tail = ⟨1, 7#16, 300, 9020#32⟩ :: [] ∧
    openTree.stack.tail = [] ∧ openTree.stack = ⟨1, 7#16, 300, 9020#32⟩ :: [] ∧ ScanPort.cleared.stack = [] ∧
    (321 ≠ 300 ∧ 321 = (320 + 1) % 8192) :=
  ⟨fun _ _ _ _ _ => ⟨append_ends _ _ 0, rfl, rfl, rfl⟩, ⟨rfl, rfl, rfl⟩, rfl, rfl, rfl, rfl, by decide⟩

/-- With nothing in hand; with a command waiting; with a forced abandon pending, at depth 0 and at depth 1; with a request
begun; and not STOPPING. -/
theorem witness_SafeIsEntered :
    let d : Device := { part with part := .stopping }
    let forced (depth : List ScopeEntry) : Device :=
      { d with
        scope := ⟨{ part.scope.p0 with stack := depth, pendingAbandon := some .forced }, part.scope.p1⟩
        link := ⟨.working (.force .p0), 0#4, [], false⟩ }
    let b : Device := queued d [entry (read 9000#26) .readAccess]
    d.scope.p0.pendingAbandon = none ∧ d.scope.p1.pendingAbandon = none ∧ d.part = .stopping ∧
    ((∀ e ∈ d.host.p0.queue, isBegun e = false) ∧ (∀ e ∈ d.host.p1.queue, isBegun e = false) ∧
      d.journal.queue = [] ∧ d.journal.append = none ∧ d.anchor.update = none ∧
      (∀ j ∈ d.rollback.jobs, j.phase = .waiting) ∧ d.array.anchorReq = none ∧ d.array.recoveryReq = none ∧
      d.array.outstanding = none) ∧
    { d with link := ⟨.working .format, 0#4, [], false⟩ }.link.slot = .working .format ∧
    ((forced []).link.slot = .working (.force .p0) ∧ ((forced []).scope.get .p0).pendingAbandon ≠ none ∧
      ((forced []).scope.get .p0).stack = [] ∧ ((forced [⟨7#16, 300⟩]).scope.get .p0).stack ≠ []) ∧
    ¬(∀ e ∈ b.host.p0.queue, isBegun e = false) ∧ b.scope.p0.pendingAbandon = none ∧ b.scope.p1.pendingAbandon = none ∧
    part.part ≠ .stopping := by decide +kernel

theorem witness_SafeHoldsItsState :
    SafeInv { queued part [entry (read 9000#26) .waiting] with part := .safe } ∧
    [Instr.writeBegin .p0].head? ≠ some .powerOn ∧ [Instr.writeBegin .p0].head? ≠ some .prstAssert ∧
    ([] : List Instr).head? ≠ some .powerOn := by
  refine ⟨⟨rfl, rfl, rfl, rfl, rfl, rfl, rfl, rfl, rfl, rfl, rfl, rfl, ?_, ?_⟩, by decide, by decide, by decide⟩
  · intro e he; cases List.mem_singleton.1 he; rfl
  · intro e he; cases he

/-! ## Witnesses: the management link -/

theorem quiet_part : Quiet quietPart := by
  refine ⟨rfl, rfl, ?_, ?_, ?_, rfl, rfl, rfl, rfl, rfl⟩
  · intro e he; cases he
  · intro e he; cases he
  · intro i; simp [quietPart, part, Device.cleared, ClaimTable.cleared]

theorem witness_ReadCommandsReply :
    (∀ payload, FrameTaken part (frame payload)) ∧ FrameTaken replied { frame [] with selected := .beforeReply } ∧
    FrameTaken replied { frame [] with selected := .checkedBeforeReply } ∧
    (frame []).payload = [] ∧ (∀ a, (frame (byteParam a)).payload = byteParam a) ∧
    1 < (2#8 : Byte).toNat ∧ (7#8 : Byte).toNat < 8 ∧ 8 ≤ (8#8 : Byte).toNat :=
  ⟨frameTaken_part, frameTaken_replied.1, frameTaken_replied.2, rfl, fun _ => rfl, by decide, by decide, by decide⟩

/-- Slot 252, the last with three more after it, and slots 253 to 255. -/
theorem witness_ReplyPayloadsAreLaidOut :
    (∃ c, (claimed part ⟨9000, .p1, true, noImages⟩).claims.slots.toList[0]? = some (some c)) ∧
    part.part ≠ .unformatted ∧ (252 ≤ 255 ∧ 252 ≤ 252) ∧ (255 ≤ 255 ∧ ¬ 255 ≤ 252) :=
  ⟨⟨_, rfl⟩, by decide, by decide, by decide⟩

theorem witness_AlertsAreReportedAndAcknowledged :
    (∀ payload, FrameTaken part (frame payload)) ∧ (frame []).payload = [] ∧ part.part = .running ∧
    (∀ hi lo, (frame [hi, lo, 0#8, 0#8]).payload = [hi, lo, 0#8, 0#8]) ∧
    { part with part := .safe }.part = .safe ∧ { part with part := .cold }.part = .cold :=
  ⟨frameTaken_part, rfl, rfl, fun _ _ => rfl, rfl, rfl⟩

theorem witness_AlertMaskAndLine :
    part.pwrwarn = false ∧ part.prst = false ∧ (∀ payload, FrameTaken part (frame payload)) ∧ part.part ≠ .stopping ∧ part.part ≠ .safe ∧
    (frame []).payload = [] ∧ part.part = .running ∧
    (∀ hi lo, (frame [hi, lo, 0#8, 0#8]).payload = [hi, lo, 0#8, 0#8]) ∧ 9 ≠ latchBit .recovered :=
  ⟨rfl, rfl, frameTaken_part, by decide, by decide, rfl, rfl, fun _ _ => rfl, by decide⟩

theorem witness_CountersArePagedAndCleared :
    (∀ payload, FrameTaken part (frame payload)) ∧ (∀ a, (frame (byteParam a)).payload = byteParam a) ∧
    (0#8 : Byte).toNat = 2 * Port.p0.num ∧ (1#8 : Byte).toNat = 2 * Port.p0.num + 1 ∧
    (2#8 : Byte).toNat = 2 * Port.p1.num ∧ (3#8 : Byte).toNat = 2 * Port.p1.num + 1 ∧ 5 ≤ (5#8 : Byte).toNat ∧
    part.part = .running ∧ (frame []).payload = [] ∧ { part with part := .recovering }.part = .recovering :=
  ⟨frameTaken_part, fun _ => rfl, rfl, rfl, rfl, rfl, by decide, rfl, rfl, rfl⟩

/-- Region 7 up to the last line of the array; a timer at the new limit and one below it; timeouts of 10 and 2,550 µs. -/
theorem witness_SetupCommandsTakeEffect :
    let aged : Device := { quietPart with scope := ⟨{ quietPart.scope.p0 with running := true, age := 256 }, part.scope.p1⟩ }
    ((∀ payload, FrameTaken quietPart (frame payload)) ∧ quietPart.part = .running ∧ Quiet quietPart) ∧
    ((7#8 : Byte).toNat < 8 ∧ (0x0D#8 : Byte).extractLsb' 4 4 = 0#4 ∧
      BitVec.ofNat 2 (modeNum .journal) = (0x0D#8 : Byte).extractLsb' 0 2 ∧ (0x0D#8 : Byte).getLsbD 2 = true ∧
      (0#8 ++ 0x0F#8 ++ 0xFF#8 ++ 0xFF#8 : BitVec 32).toNat = 1048575 ∧ 1048575 < quietPart.regions.lineCount.getD 0) ∧
    ((∀ payload, FrameTaken aged (frame payload)) ∧ aged.part = .running ∧ (aged.scope.get .p0).running = true ∧ (1#8 ++ 0#8 : BitVec 16) ≠ 0#16 ∧
      (1#8 ++ 0#8 : BitVec 16).toNat ≤ (aged.scope.get .p0).age ∧ ¬(1#8 ++ 1#8 : BitVec 16).toNat ≤ (aged.scope.get .p0).age ∧
      (aged.scope.get .p0).state ≠ .wedged ∧ (aged.scope.get .p0).pendingAbandon = none ∧ aged.rollback.jobs = []) ∧
    ((quietPart.scope.get .p0).running = false ∧ (0#8 ++ 0#8 : BitVec 16) = 0#16) ∧
    ((0#8 ++ 10#8 : BitVec 16).toNat % 10 = 0 ∧ 10 ≤ (0#8 ++ 10#8 : BitVec 16).toNat) ∧
    ((9#8 ++ 0xF6#8 : BitVec 16).toNat % 10 = 0 ∧ (9#8 ++ 0xF6#8 : BitVec 16).toNat ≤ 2550) :=
  ⟨⟨frameTaken_part, rfl, quiet_part⟩, by decide, ⟨frameTaken_part, rfl, by decide⟩, by decide, by decide, by decide⟩

/-- The smallest array and journal, the largest, with the journal at their ends. -/
theorem witness_FormatAndForceAreAccepted :
    (∀ payload, FrameTaken quietPart (frame payload)) ∧ Quiet quietPart ∧ quietPart.part = .running ∧ { part with part := .unformatted }.part = .unformatted ∧
    (let arrayLines := 260#32; let base := 4#32; let lines := 256#32; let low := 503#32;
      1 ≤ arrayLines.toNat ∧ arrayLines.toNat ≤ 2 ^ 26 ∧ 4 ≤ base.toNat ∧ 256 ≤ lines.toNat ∧ lines.toNat ≤ 262144 ∧
      base.toNat + lines.toNat ≤ arrayLines.toNat ∧ low.toNat ≤ 2 * lines.toNat - 9) ∧
    (let arrayLines := 0x4000000#32; let base := 0x3FC0000#32; let lines := 0x40000#32; let low := 524279#32;
      1 ≤ arrayLines.toNat ∧ arrayLines.toNat ≤ 2 ^ 26 ∧ 4 ≤ base.toNat ∧ 256 ≤ lines.toNat ∧ lines.toNat ≤ 262144 ∧
      base.toNat + lines.toNat ≤ arrayLines.toNat ∧ low.toNat ≤ 2 * lines.toNat - 9) ∧
    ((quietPart.scope.get .p0).state ≠ .wedged ∧ (quietPart.scope.get .p0).pendingAbandon = none ∧
      quietPart.rollback.jobs = []) ∧
    (timed .active [] .alert (some .timer)).scope.p0.pendingAbandon ≠ none :=
  ⟨frameTaken_part, quiet_part, rfl, rfl, by decide, by decide, by decide, by decide⟩

/-- A reply of 3 bytes fetched whole, one byte short of it, and in a frame checked before it; an EMPTY and a WORKING slot. -/
theorem witness_FetchReplyServesTheReply :
    replied.link.slot = .ready .done [] ∧
    (FrameEnds replied (fetch .beforeReply 3 true).selected ∧ FrameEnds replied (fetch .current 2 true).selected ∧
      FrameEnds replied (fetch .checkedBeforeReply 3 true).selected) ∧
    ([0#8, 0#8] ++ [crc8 [0#8, 0#8]]).length ≤ 3 ∧ 2 < ([0#8, 0#8] ++ [crc8 [0#8, 0#8]]).length ∧
    (FrameEnds part (frame []).selected ∧ part.link.slot = .empty) ∧
    (FrameEnds (copyWrite .running true) (frame []).selected ∧ (copyWrite .running true).link.slot = .working .update) ∧
    (frame []).wellFormed = true :=
  ⟨rfl, ⟨.inr ⟨rfl, .inl rfl⟩, .inl rfl, .inr ⟨rfl, .inr rfl⟩⟩, by decide, by decide, ⟨.inl rfl, rfl⟩, ⟨.inl rfl, rfl⟩,
    by decide⟩

theorem witness_SpoiledFramesAreAnswered :
    ((copyWrite .running true).link.slot = .working .update ∧
      FrameEnds (copyWrite .running true) (⟨.current, 1⟩ : CutFrame).selected ∧
      FrameEnds (copyWrite .running true) (frame []).selected) ∧
    (∃ k, frameOf (.getState (frame [])) = some (k, frame [])) ∧
    (SlotFree replied ∧ FrameEnds replied (⟨.beforeReply, 2⟩ : CutFrame).selected) ∧ FrameTaken part (frame []) ∧
    { frame [] with selected := .beforeReset }.selected = .beforeReset :=
  ⟨⟨rfl, .inl rfl, .inl rfl⟩, ⟨_, rfl⟩, ⟨slotFree_replied, .inr ⟨rfl, .inl rfl⟩⟩, frameTaken_part [], rfl⟩

/-- The parameters one beyond each end of their ranges. -/
theorem witness_CommandsAreRefusedInOrder :
    ((∀ payload, FrameTaken part (frame payload)) ∧
      Instr.syncAnchor (frame []) ∈ [Instr.setRegion (frame []), .syncAnchor (frame [])]) ∧
    ({ part with part := .failed }.part ≠ .running ∧ { part with part := .cold }.part ≠ .running ∧
      { part with part := .cold }.part ≠ .unformatted ∧ { part with part := .cold }.part ≠ .failed) ∧
    { part with part := .stopping }.part = .stopping ∧ (frame [0#8]).payload ≠ [] ∧ (frame []).payload.length ≠ 4 ∧
    (frame (List.replicate 16 0#8)).payload.length ≠ 12 ∧ (frame (List.replicate 12 0#8)).payload.length ≠ 16 ∧
    (part.part = .running ∧ ¬Quiet part) ∧
    (¬((0#8 : Byte) = 0#8 ∧ (0#8 : Byte) = 0#8 ∧ (1#8 : Byte) = 0#8) ∧ 3 ≤ (3#8 : Byte).toNat ∧ 2 ≤ (2#8 : Byte).toNat ∧
      (9#8 ++ 0xF7#8 : BitVec 16).toNat % 10 ≠ 0 ∧ (0#8 ++ 0#8 : BitVec 16).toNat < 10 ∧
      2550 < (0x0A#8 ++ 0#8 : BitVec 16).toNat) := by
  refine ⟨⟨frameTaken_part, by decide⟩, by decide, rfl, by decide, by decide, by decide, by decide, ⟨rfl, ?_⟩, by decide⟩
  intro h
  exact absurd h.1 (by decide)

/-- SET REGION: region 8, mode 3, first after last, a last line beyond the array; and region 7 up to the last line. -/
theorem witness_CommandsAreRefusedInOrder_region :
    let inRange (n a : Byte) (first last : BitVec 32) : Prop :=
      n.toNat < 8 ∧ a.extractLsb' 0 2 ≠ 3#2 ∧ a.extractLsb' 4 4 = 0#4 ∧
        (a.getLsbD 2 = true → first.toNat ≤ last.toNat ∧ last.toNat < part.regions.lineCount.getD 0)
    ¬inRange 8#8 0#8 0#32 0#32 ∧ ¬inRange 0#8 3#8 0#32 0#32 ∧ ¬inRange 0#8 0x10#8 0#32 0#32 ∧
    ¬inRange 0#8 4#8 1#32 0#32 ∧ ¬inRange 0#8 4#8 0#32 1048576#32 ∧ inRange 7#8 4#8 0#32 1048575#32 ∧
    inRange 0#8 0#8 1#32 0#32 := by decide +kernel

/-- FORMAT JOURNAL: each range left by one; and at its ends. -/
theorem witness_CommandsAreRefusedInOrder_format :
    let inRange (arrayLines base lines low : BitVec 32) : Prop :=
      1 ≤ arrayLines.toNat ∧ arrayLines.toNat ≤ 2 ^ 26 ∧ 4 ≤ base.toNat ∧ 256 ≤ lines.toNat ∧ lines.toNat ≤ 262144 ∧
        base.toNat + lines.toNat ≤ arrayLines.toNat ∧ low.toNat ≤ 2 * lines.toNat - 9
    ¬inRange 0x4000001#32 4#32 256#32 0#32 ∧ ¬inRange 260#32 3#32 256#32 0#32 ∧ ¬inRange 260#32 4#32 255#32 0#32 ∧
    ¬inRange 0x4000000#32 4#32 262145#32 0#32 ∧ ¬inRange 259#32 4#32 256#32 0#32 ∧ ¬inRange 260#32 4#32 256#32 504#32 ∧
    inRange 260#32 4#32 256#32 503#32 := by decide

theorem witness_AlertsAndCountersOnlyGrow :
    Instr.accessGrant ≠ .powerOn ∧ Instr.accessGrant ≠ .prstAssert ∧ (∀ f, Instr.accessGrant ≠ .resetPart f) ∧
    (∀ f, Instr.accessGrant ≠ .ackAlerts f) ∧ (∀ f, Instr.accessGrant ≠ .setAlertMask f) ∧
    ∀ f, Instr.accessGrant ≠ .clearCounters f := by simp

end Sys2Proof.Tests
end

/-!
The merge of a scope level in the claim table (R35): what a put image reads back, what a merge does to one entry and to the
table, and the durable CLOSE MERGED record that causes it (O36).
-/
namespace Sys2Proof.Machine

/-! ## Image positions -/

theorem imageAt_putImage_self (m : Images) {level : Nat} (low : 1 ≤ level) (high : level ≤ 4) (v : Option Nat) :
    imageAt (putImage m level v) level = v := by
  obtain rfl | rfl | rfl | rfl : level = 1 ∨ level = 2 ∨ level = 3 ∨ level = 4 := by omega
  all_goals rfl

theorem imageAt_putImage_of_ne (m : Images) {level other : Nat} (ne : other ≠ level) (v : Option Nat) :
    imageAt (putImage m level v) other = imageAt m other := by
  unfold putImage
  split
  case h_5 => rfl
  all_goals
    unfold imageAt
    split <;> trivial

/-! ## Merge of one entry (R35) -/

/-- The images of an entry after the merge of a level at which it holds the image `cell`. -/
def mergedImages (m : Images) (level cell : Nat) : Images :=
  putImage (putImage m (level - 1) (some ((imageAt m (level - 1)).getD cell))) level none

theorem mergeClaim_of_port_ne {p : Port} {c : Claim} (h : c.port ≠ p) (level : Nat) : mergeClaim p level c = c :=
  if_neg h

theorem mergeClaim_of_absent {level : Nat} {c : Claim} (h : imageAt c.images level = none) (p : Port) :
    mergeClaim p level c = c := by
  simp [mergeClaim, h]

theorem mergeClaim_of_present {p : Port} {level cell : Nat} {c : Claim} (hp : c.port = p)
    (h : imageAt c.images level = some cell) :
    mergeClaim p level c = { c with images := mergedImages c.images level cell } := by
  cases hk : imageAt c.images (level - 1) <;> simp [mergeClaim, mergedImages, hp, h, hk]

section
variable (m : Images) {level : Nat} (cell : Nat)

theorem imageAt_mergedImages_self (low : 1 ≤ level) (high : level ≤ 4) :
    imageAt (mergedImages m level cell) level = none :=
  imageAt_putImage_self _ low high none

theorem imageAt_mergedImages_below (low : 2 ≤ level) (high : level ≤ 4) :
    imageAt (mergedImages m level cell) (level - 1) = some ((imageAt m (level - 1)).getD cell) := by
  unfold mergedImages
  rw [imageAt_putImage_of_ne _ (by omega), imageAt_putImage_self _ (by omega) (by omega)]

theorem imageAt_mergedImages_of_ne {other : Nat} (ne : other ≠ level) (below : other ≠ level - 1) :
    imageAt (mergedImages m level cell) other = imageAt m other := by
  unfold mergedImages
  rw [imageAt_putImage_of_ne _ ne, imageAt_putImage_of_ne _ below]

end

/-! ## Merge of the table, and the record that causes it -/

@[simp] theorem ClaimTable.merge_slots (t : ClaimTable) (p : Port) (level : Nat) (i : Fin 256) :
    (t.merge p level).slots[i] = t.slots[i].map (mergeClaim p level) := by
  simp [ClaimTable.merge]

@[simp] theorem Device.answerMark_claims (d : Device) (p : Port) (code : RespCode) :
    (d.answerMark p code).claims = d.claims := rfl

@[simp] theorem Device.mergeDurable_claims (d : Device) (p : Port) (level : Nat) :
    (d.mergeDurable p level).claims = d.claims.merge p level := rfl

@[simp] theorem lagChecked_claims (d : Device) : (lagChecked d).claims = d.claims := by
  obtain ⟨w, hw⟩ := lagChecked_spec d
  rw [hw]

@[simp] theorem jlowChecked_claims (d : Device) : (jlowChecked d).claims = d.claims := by
  obtain ⟨x, hx⟩ := jlowChecked_spec d
  rw [hx]

/-- A marker's durable CLOSE MERGED goes to the scope unit's merge (R7). -/
theorem Device.tellDurable_merged (d : Device) {i : Item} (source : i.source = .marker) (record : i.record = .close .merged)
    (position : Nat) : d.tellDurable i position = d.mergeDurable i.port i.level := by
  simp [Device.tellDurable, source, record]

/-- The last answer of a marker's CLOSE MERGED append merges the claim table and changes nothing else in it. -/
theorem closeMerged_claims {d : Device} {n : BitVec 4} {o : Outstanding} {a : Append} (ends : AppendEnds d n o a)
    (source : a.item.source = .marker) (record : a.item.record = .close .merged) (q : List Instr) (data : LineData) :
    Nexts (exec (.arrayAnswer n true data) ⟨q, d⟩) fun t =>
      t.dev.claims = d.claims.merge a.item.port a.item.level := by
  rw [appendEnds_eq ends, Device.tellDurable_merged _ source record]
  simp [Nexts, portFree]

theorem Nexts.mono {x : Host.Outcome State Fault Refusal} {P Q : State → Prop} (h : Nexts x P) (imp : ∀ s, P s → Q s) :
    Nexts x Q := by
  cases x with
  | next s => exact imp s h
  | fault _ => exact h
  | refused _ => exact h

/-- Settles O36: the record's step merges the table, and each slot then shows the merge of its own entry. -/
theorem mergeMovesOrDropsImages : Obligations.MergeMovesOrDropsImages := by
  intro q p d n data o a level ends source record port low high
  refine (closeMerged_claims ends source record q data).mono fun t merged i => ?_
  have slot : t.dev.claims.slots[i] = d.claims.slots[i].map (mergeClaim p level) := by
    rw [merged, port, ClaimTable.merge_slots]
  refine ⟨fun free => by simp [slot, free], fun c held => ?_⟩
  rw [held, Option.map_some] at slot
  refine ⟨fun kept => ?_, fun own cell image => ⟨mergedImages c.images level cell, ?_, ?_, ?_, ?_⟩⟩
  · rcases kept with other | absent
    · exact slot.trans (congrArg some (mergeClaim_of_port_ne other level))
    · exact slot.trans (congrArg some (mergeClaim_of_absent absent p))
  · exact slot.trans (congrArg some (mergeClaim_of_present own image))
  · exact imageAt_mergedImages_self _ _ (by omega) high
  · rw [imageAt_mergedImages_below _ _ low high]
    cases imageAt c.images (level - 1) <;> rfl
  · exact fun other ne below => imageAt_mergedImages_of_ne _ _ ne below

end Sys2Proof.Machine

/-!
The classification of a WRITE's line by the region table (R69): when an entry covers a line, what the search for the first
such entry answers in each of its two cases, and the mode and policy that follow (O37).
-/
namespace Sys2Proof.Machine

/-! ## Region table -/

/-- The test `RegionTable.classify` searches with: the entry is enabled and the line lies in it (R69). -/
def Region.covers (line : Nat) (r : Region) : Bool := r.enabled && decide (r.first ≤ line) && decide (line ≤ r.last)

theorem Region.covers_iff {line : Nat} {r : Region} :
    r.covers line = true ↔ r.enabled = true ∧ r.first ≤ line ∧ line ≤ r.last := by
  simp [Region.covers, and_assoc]

/-- The classification reads the answer of the search: the entry's mode and policy, or the default mode with REFUSE. -/
theorem RegionTable.classify_eq (t : RegionTable) (line : Nat) :
    t.classify line =
      (t.entries.find? (Region.covers line)).elim (t.defaultMode, false) fun r => (r.mode, r.allow) := by
  rw [← Vector.find?_toList]
  unfold classify Region.covers
  cases List.find? _ t.entries.toList <;> rfl

/-- The search stops at an entry that covers the line when no entry of lower index does. -/
theorem RegionTable.find_first_covering {t : RegionTable} {line : Nat} {i : Fin 8}
    (covered : t.entries[i].covers line = true) (first : ∀ j < i, t.entries[j].covers line ≠ true) :
    t.entries.find? (Region.covers line) = some t.entries[i] :=
  Vector.find?_eq_some_iff_getElem.2 ⟨covered, i, i.isLt, rfl, fun j lower => by
    simpa using first ⟨j, lower.trans i.isLt⟩ lower⟩

theorem RegionTable.find_none_covering {t : RegionTable} {line : Nat}
    (uncovered : ∀ i : Fin 8, t.entries[i].covers line ≠ true) : t.entries.find? (Region.covers line) = none :=
  Vector.find?_eq_none.2 (Vector.forall_mem_iff_forall_getElem.2 fun i low => uncovered ⟨i, low⟩)

/-- Settles O37: the search of the table answers the first covering entry or none, and `classify` reads its answer. -/
theorem firstEnabledRegionDecides : Obligations.FirstEnabledRegionDecides := by
  intro t line covers
  have covers_entry (i : Fin 8) : covers i ↔ t.entries[i].covers line = true := Region.covers_iff.symm
  rw [RegionTable.classify_eq]
  refine ⟨fun i covered first => ?_, fun uncovered => ?_⟩
  · rw [RegionTable.find_first_covering ((covers_entry i).1 covered)
      fun j lower => mt (covers_entry j).2 (first j lower), Option.elim_some]
  · rw [RegionTable.find_none_covering fun i => mt (covers_entry i).2 (uncovered i), Option.elim_none]

end Sys2Proof.Machine

/-!
The part after each command, as one function that every later proof speaks of (`effect`), and the statements about a step
as such (O1, O2, O3).
-/
namespace Sys2Proof.Machine

-- One proof at a time: each would otherwise hold a thread of its own.
set_option Elab.async false

/-- What the row of a marker kind does: nothing, an answer at once, or the marker carried out (R4). -/
def Device.runMark (d : Device) (p : Port) (kind : MarkKind) (carry : Nat → Request → Device) : Device :=
  match d.nextMark p kind with
  | none => d
  | some (i, _, some code) => d.answerAt p i code
  | some (i, r, none) => carry i r

/-- The part after a command. -/
def effect (c : Instr) (d : Device) : Device :=
  match c with
  | .powerOn => d.powerOn
  | .prstAssert => d.prstAssert
  | .prstRelease => d.prstRelease
  | .pwrwarnAssert => d.pwrwarnAssert
  | .pwrwarnRelease => { d with pwrwarn := false }
  | .hrstAssert p => d.hrstAssert p
  | .hrstRelease p => d.hrstRelease p
  | .requestTaken p r => d.onHost p fun h => h.take r
  | .responseTaken p => d.takeResponse p
  | .readBegin p => d.beginRead p
  | .readHazardClear p line => d.clearHazard p line.toNat
  | .writeBegin p => d.beginWrite p
  | .openMark p => d.runMark p .openScope fun i r => (d.beginAt p i .marker).openScope p (reqLevel r)
  | .closeMark p => d.runMark p .closeScope fun i r => (d.beginAt p i .marker).closeScope p (reqLevel r)
  | .abandonMark p => d.runMark p .abandonScope fun i r => (d.beginAt p i .marker).abandonScope p (reqLevel r)
  | .accessGrant => { d with array := d.array.grant }
  | .arrayAnswer number ok data => d.arrayAnswer number ok data
  | .arrayResponseTimeout => d.arrayTimeout
  | .takeAppendItem => d.takeItem
  | .heldItemRetake => d.retakeItem
  | .scopeAgeExpiry p => d.ageExpiry p
  | .forcedAbandonWaitEnd p => d.abandonWaitEnd p
  | .rollbackJobTake => d.takeJob
  | .anchorUpdateBegin => d.beginUpdate
  | .safeEntry => d.safeEntry
  | .formatCopyWrite => d.formatCopy
  | .frameWhileWorking n => d.frameWhileWorking n
  | .frameCutShort f => d.frameCutShort f
  | .badCheck f => d.command f admitAll fun d => d.countBadFrame.reply .badCheck []
  | .unknown _ f => d.command f admitAll fun d => d.reply .unknown []
  | .fetchReply f => d.fetchReply f
  | .getState f => d.command f admitAll fun d => d.bare f fun d => d.reply .done d.statePayload
  | .getScope f => d.command f admitAll fun d => d.oneByte f Device.getScope
  | .getClaims f => d.command f admitAll fun d => d.oneByte f fun d a => d.reply .done (d.claimsPayload a.toNat)
  | .getRegion f => d.command f admitAll fun d => d.oneByte f Device.getRegion
  | .getJournal f => d.command f admitAll fun d => d.bare f fun d => d.reply .done d.journalPayload
  | .getAlerts f => d.command f admitAll fun d => d.bare f fun d => d.reply .done d.alertsPayload
  | .getCounters f => d.command f admitAll fun d => d.oneByte f Device.getCounters
  | .ackAlerts f => d.command f admitFormatted fun d => d.maskParam f Device.ackAlerts
  | .setAlertMask f => d.command f admitFormatted fun d => d.maskParam f Device.setAlertMask
  | .clearCounters f => d.command f admitFormatted fun d => d.bare f Device.clearCounters
  | .setRegion f => d.command f admitRunning fun d => d.setRegionParam f
  | .setDefaultMode f => d.command f admitRunning fun d => d.oneByte f Device.setDefaultMode
  | .setTimer f => d.command f admitRunning fun d => d.setTimerParam f
  | .setArrayTimeout f => d.command f admitRunning fun d => d.setTimeoutParam f
  | .syncAnchor f => d.command f admitRunning fun d => d.bare f Device.requestUpdate
  | .formatJournal f => d.command f admitFormatted fun d => d.formatParam f
  | .forceAbandon f => d.command f admitRunning fun d => d.oneByte f Device.forceParam
  | .resetPart f => d.command f admitReset fun d => d.bare f Device.resetPart
  | .markKindNone p => d.runMark p .none fun i _ => d.answerAt p i .level

/-- Every command goes on to a next state, in which only the part has changed. -/
theorem exec_eq (c : Instr) (q : List Instr) (d : Device) : exec c ⟨q, d⟩ = .next ⟨q, effect c d⟩ := by
  cases c with
  | openMark p => simp only [exec, execOpen, effect, Device.runMark]; split <;> simp_all
  | closeMark p => simp only [exec, execClose, effect, Device.runMark]; split <;> simp_all
  | abandonMark p => simp only [exec, execAbandon, effect, Device.runMark]; split <;> simp_all
  | markKindNone p => simp only [exec, execMarkKindNone, effect, Device.runMark]; split <;> simp_all
  | _ => rfl

@[simp] theorem nexts_exec (c : Instr) (q : List Instr) (d : Device) (P : State → Prop) :
    Nexts (exec c ⟨q, d⟩) P ↔ P ⟨q, effect c d⟩ := by
  rw [exec_eq]; rfl

/-- A command's outcome is named by the part it leaves. -/
theorem exec_eq_iff {c : Instr} {q : List Instr} {d t : Device} :
    exec c ⟨q, d⟩ = .next ⟨q, t⟩ ↔ effect c d = t := by
  rw [exec_eq]; simp

/-- The part after a step: the front command's effect, or a millisecond. -/
theorem nexts_step (s : State) (P : State → Prop) :
    Nexts (step s) P ↔ P (match s.pending with
      | [] => ⟨[], s.dev.tick⟩
      | c :: rest => ⟨rest, effect c s.dev⟩) := by
  obtain ⟨pending, d⟩ := s
  cases pending with
  | nil => rfl
  | cons c rest => exact nexts_exec c rest d P

/-- Settles O1: `step` is `exec` of the front command. -/
theorem stepRunsTheFrontCommand : Obligations.StepRunsTheFrontCommand := fun _ _ _ => rfl

theorem ScopePort.tick_eq (s : ScopePort) :
    s.tick = { s with age := if s.stack = [] then s.age else s.age + 1 } := by
  unfold ScopePort.tick
  split <;> rfl

/-- Settles O2, by the two branches of the tick. -/
theorem idleStepPassesAMillisecond : Obligations.IdleStepPassesAMillisecond := by
  intro d aged
  refine ⟨fun safe => ?_, fun running => ?_⟩
  · simp [step, Device.tick, safe]
  · simp [step, Device.tick, running, Device.onScope, ScopePort.tick_eq, aged]

/-- Settles O3: the effect of a command is a function of the part alone. -/
theorem everyCommandCompletes : Obligations.EveryCommandCompletes :=
  fun c d q q' => ⟨effect c d, exec_eq c q d, exec_eq c q' d⟩

end Sys2Proof.Machine

/-!
The invariant of a host port (R146 to R151) under each change of its queue and path: a request taken, begun, moved to a
further stage, answered or halted, a response taken, and the HRST line.
-/
namespace Sys2Proof.Machine

-- One proof at a time: each would otherwise hold a thread of its own.
set_option Elab.async false

/-! ## A place of the queue -/

/-- The queue around a place: what a write to the place and its removal leave. -/
theorem queue_split {α : Type} {q : List α} {i : Nat} {e : α} (he : q[i]? = some e) :
    ∃ l r, q = l ++ e :: r ∧ l = q.take i ∧ (∀ x, q.set i x = l ++ x :: r) ∧ q.eraseIdx i = l ++ r := by
  obtain ⟨hi, rfl⟩ := List.getElem?_eq_some_iff.1 he
  refine ⟨q.take i, q.drop (i + 1), ?_, rfl, fun x => ?_, List.eraseIdx_eq_take_drop_succ q i⟩
  · simp
  · rw [List.set_eq_take_append_cons_drop, if_pos hi]

/-- The order R150 keeps between an earlier and a later request of a queue. -/
def Ordered (x y : Entry) : Prop :=
  isBegun y = true → x.stage ≠ .finished → reqKind x.req ≠ .mark ∧ reqKind y.req ≠ .mark ∧ reqLine x.req ≠ reqLine y.req

/-- The invariant of a host port with its parts named. -/
structure PortOk (h : HostPort) : Prop where
  places : h.queue.length ≤ 8
  window : (h.queue.filter isBegun).length ≤ 4
  tags : ((h.queue.filter fun e => !e.withheld).map fun e => e.req.tag).Nodup
  withheld : ∀ e ∈ h.queue, e.withheld = true → isBegun e = true
  answers : ((h.path.filter fun r => !r.refusal).map Response.tag).Perm
    ((h.queue.filter fun e => e.stage == .finished).map fun e => e.req.tag)
  refusals : (h.path.filter Response.refusal).length ≤ 1
  order : h.queue.Pairwise Ordered

theorem portInv_iff (h : HostPort) : PortInv h ↔ PortOk h :=
  ⟨fun ⟨a, b, c, d, e, f, g⟩ => ⟨a, b, c, d, e, f, g⟩, fun ⟨a, b, c, d, e, f, g⟩ => ⟨a, b, c, d, e, f, g⟩⟩

theorem isBegun_finished {e : Entry} (h : e.stage = .finished) : isBegun e = false := by simp [isBegun, h]

theorem isBegun_waiting {e : Entry} (h : e.stage = .waiting) : isBegun e = false := by simp [isBegun, h]

theorem not_finished_of_isBegun {e : Entry} (h : isBegun e = true) : e.stage ≠ .finished :=
  fun hf => by simp [isBegun_finished hf] at h

theorem isBegun_iff {e : Entry} : isBegun e = true ↔ e.stage ≠ .waiting ∧ e.stage ≠ .finished := by
  simp [isBegun]

/-- The order between two requests rests on the request and on being unfinished or begun alone. -/
theorem Ordered.mono {x y x' y' : Entry} (h : Ordered x y) (hx : x'.req = x.req) (hy : y'.req = y.req)
    (unfinished : x'.stage ≠ .finished → x.stage ≠ .finished) (begun : isBegun y' = true → isBegun y = true) :
    Ordered x' y' := by
  intro hb hf
  rw [hx, hy]
  exact h (begun hb) (unfinished hf)

/-- The outstanding tags of a queue stay when a place takes another entry of the same request. -/
theorem unwithheld_tags_replaced (l r : List Entry) {e e' : Entry} (req : e'.req = e.req)
    (withheld : e'.withheld = e.withheld) :
    (((l ++ e' :: r).filter fun e => !e.withheld).map fun e => e.req.tag) =
      ((l ++ e :: r).filter fun e => !e.withheld).map fun e => e.req.tag := by
  cases hw : e.withheld <;> simp [req, withheld, hw]

/-! ## Requests and responses (R147, R151) -/

theorem HostPort.tagOutstanding_iff (h : HostPort) (tag : BitVec 3) :
    h.tagOutstanding tag = true ↔ ∃ e ∈ h.queue, e.withheld = false ∧ e.req.tag = tag := by
  simp [HostPort.tagOutstanding]

theorem HostPort.canTake_iff (h : HostPort) :
    h.canTake = true ↔ h.queue.length < 8 ∧ ∀ x ∈ h.path, x.refusal = false := by
  simp only [HostPort.canTake, Bool.and_eq_true, decide_eq_true_eq, Bool.not_eq_true', List.any_eq_false,
    Bool.not_eq_true]
  rfl

theorem PortOk.take {h : HostPort} (ok : PortOk h) (r : Request) : PortOk (h.take r) := by
  unfold HostPort.take
  split
  · exact ok
  split
  swap
  · exact ok
  rename_i room
  obtain ⟨free, noRefusal⟩ := h.canTake_iff.1 room
  split
  · refine { ok with answers := ?_, refusals := ?_ }
    · simpa using ok.answers
    · have none : h.path.filter Response.refusal = [] := List.filter_eq_nil_iff.2 fun x hx => by simp [noRefusal x hx]
      simp [none]
  · rename_i fresh
    rw [HostPort.tagOutstanding_iff] at fresh
    refine { places := ?_, window := ?_, tags := ?_, withheld := ?_, answers := ?_, refusals := ok.refusals, order := ?_ }
    · simpa using free
    · simpa [isBegun] using ok.window
    · simp only [List.filter_append, List.map_append]
      refine List.nodup_append.2 ⟨ok.tags, by simp, ?_⟩
      simp only [List.mem_map, List.mem_filter]
      rintro _ ⟨e, ⟨he, kept⟩, rfl⟩ t ht
      simp at ht
      subst ht
      exact fun same => fresh ⟨e, he, by simpa using kept, same⟩
    · simp only [List.mem_append, List.mem_singleton]
      rintro e (he | rfl) hw
      · exact ok.withheld e he hw
      · cases hw
    · simpa using ok.answers
    · refine List.pairwise_append.2 ⟨ok.order, List.pairwise_singleton _ _, fun x _ y hy => ?_⟩
      rw [List.mem_singleton.1 hy]
      exact fun begun => by simp [isBegun] at begun

/-- Removing the first finished request of a tag, where one is, takes that tag once out of the finished tags. -/
theorem finished_tags_eraseP {q : List Entry} {tag : BitVec 3}
    (present : tag ∈ (q.filter fun e => e.stage == .finished).map fun e => e.req.tag) :
    ((q.filter fun e => e.stage == .finished).map fun e => e.req.tag).Perm
      (tag :: (((q.eraseP fun e => e.stage == .finished && e.req.tag == tag).filter fun e => e.stage == .finished).map
        fun e => e.req.tag)) := by
  induction q with
  | nil => simp at present
  | cons e q ih =>
    by_cases hs : e.stage = .finished
    · by_cases ht : e.req.tag = tag
      · simp [hs, ht]
      · have later : tag ∈ (q.filter fun e => e.stage == .finished).map fun e => e.req.tag := by
          simpa [hs, Ne.symm ht] using present
        simp only [List.eraseP_cons, hs, ht, List.filter_cons, List.map_cons, beq_self_eq_true, if_true,
          Bool.true_and, beq_iff_eq, if_false, Bool.cond_eq_ite]
        exact ((ih later).cons _).trans (List.Perm.swap _ _ _)
    · have later : tag ∈ (q.filter fun e => e.stage == .finished).map fun e => e.req.tag := by
        simpa [hs] using present
      simpa [List.eraseP_cons, hs] using ih later

theorem PortOk.respond {h : HostPort} (ok : PortOk h) : PortOk h.respond := by
  unfold HostPort.respond
  split
  · exact ok
  rename_i r rest hp
  split
  · rename_i refusal
    refine { ok with answers := ?_, refusals := ?_ }
    · simpa [hp, refusal] using ok.answers
    · have := ok.refusals
      simp only [hp, List.filter_cons, refusal, if_true, List.length_cons] at this
      exact (Nat.le_succ _).trans this
  · rename_i answer
    have sub : (h.queue.eraseP fun e => e.stage == .finished && e.req.tag == r.tag).Sublist h.queue := List.eraseP_sublist
    refine
      { places := sub.length_le.trans ok.places
        window := (sub.filter _).length_le.trans ok.window
        tags := ok.tags.sublist ((sub.filter _).map _)
        withheld := fun e he => ok.withheld e (sub.subset he)
        answers := ?_
        refusals := ?_
        order := ok.order.sublist sub }
    · have answers := ok.answers
      simp only [hp, List.filter_cons, answer, Bool.not_false, if_true, List.map_cons] at answers
      exact (answers.trans (finished_tags_eraseP (answers.subset List.mem_cons_self))).cons_inv
    · have := ok.refusals
      simpa [hp, answer] using this

/-! ## Begin, progress, answer (R150, R151, R153) -/

theorem PortOk.answered {h : HostPort} (ok : PortOk h) {i : Nat} {e : Entry} (he : h.queue[i]? = some e)
    (unfinished : e.stage ≠ .finished) (code : RespCode) (data : LineData) : PortOk (answered h i e code data) := by
  obtain ⟨places, window, tags, withheld, answers, refusals, order⟩ := ok
  obtain ⟨l, r, hq, -, hset, herase⟩ := queue_split he
  unfold Machine.answered
  rw [hset, herase]
  split
  · rename_i hw
    have sub : (l ++ r).Sublist h.queue := by rw [hq]; simp
    refine
      { places := sub.length_le.trans places
        window := (sub.filter _).length_le.trans window
        tags := tags.sublist ((sub.filter _).map _)
        withheld := fun x hx => withheld x (sub.subset hx)
        answers := ?_
        refusals := refusals
        order := order.sublist sub }
    simpa [hq, unfinished] using answers
  · rename_i hw
    rw [hq] at places window tags withheld answers order
    simp only [List.pairwise_append, List.pairwise_cons, List.forall_mem_cons] at order
    obtain ⟨ol, ⟨oe, or⟩, olr⟩ := order
    have kept (x : Entry) (hx : x ∈ l ++ r) : x ∈ l ++ e :: r := by
      simp only [List.mem_append, List.mem_cons] at hx ⊢
      tauto
    refine { places := ?_, window := ?_, tags := ?_, withheld := ?_, answers := ?_, refusals := ?_, order := ?_ }
    · simpa using places
    · refine le_trans ?_ window
      simp [isBegun_finished (e := { e with stage := .finished }) rfl, List.filter_cons]
      split <;> simp
    · simpa [List.filter_cons, hw] using tags
    · intro x hx hxw
      simp only [List.mem_append, List.mem_cons] at hx
      rcases hx with hx | rfl | hx
      · exact withheld x (by simp [hx]) hxw
      · exact absurd hxw hw
      · exact withheld x (by simp [hx]) hxw
    · simp only [List.filter_append, List.filter_cons, List.map_append, unfinished, beq_iff_eq, if_false] at answers ⊢
      simp only [Bool.not_false, if_true, List.filter_nil, List.map_cons, List.map_nil]
      refine (answers.append_right _).trans ?_
      rw [List.append_assoc]
      exact (List.perm_append_singleton _ _).append_left _
    · simpa using refusals
    · simp only [List.pairwise_append, List.pairwise_cons, List.forall_mem_cons]
      refine ⟨ol, ⟨fun y hy => ?_, or⟩, fun x hx => ⟨?_, (olr x hx).2⟩⟩
      · exact fun _ hf => absurd rfl hf
      · exact fun begun => by simp [isBegun] at begun

theorem PortOk.reached {h : HostPort} (ok : PortOk h) {i : Nat} {e : Entry} (he : h.queue[i]? = some e)
    (begun : isBegun e = true) {stage : Stage} (target : stage ≠ .waiting ∧ stage ≠ .finished) (level : Nat) :
    PortOk (reached h i e stage level) := by
  obtain ⟨places, window, tags, withheld, answers, refusals, order⟩ := ok
  obtain ⟨l, r, hq, -, hset, -⟩ := queue_split he
  have begun' : isBegun { e with stage := stage, level := level } = true := isBegun_iff.2 target
  have unfinished := not_finished_of_isBegun begun
  unfold Machine.reached
  rw [hset]
  rw [hq] at places window tags withheld answers order
  simp only [List.pairwise_append, List.pairwise_cons, List.forall_mem_cons] at order
  obtain ⟨ol, ⟨oe, or⟩, olr⟩ := order
  refine { places := ?_, window := ?_, tags := ?_, withheld := ?_, answers := ?_, refusals := refusals, order := ?_ }
  · simpa using places
  · simpa [begun, begun'] using window
  · simpa only [unwithheld_tags_replaced l r (e := e) (e' := { e with stage := stage, level := level }) rfl rfl] using tags
  · intro x hx hxw
    simp only [List.mem_append, List.mem_cons] at hx
    rcases hx with hx | rfl | hx
    · exact withheld x (by simp [hx]) hxw
    · exact begun'
    · exact withheld x (by simp [hx]) hxw
  · simpa [unfinished, target.2] using answers
  · simp only [List.pairwise_append, List.pairwise_cons, List.forall_mem_cons]
    exact ⟨ol, ⟨fun y hy => (oe y hy).mono rfl rfl (fun _ => unfinished) id, or⟩,
      fun x hx => ⟨(olr x hx).1.mono rfl rfl id fun _ => begun, (olr x hx).2⟩⟩

/-- A request that meets the conditions of R150 begins. -/
theorem PortOk.begins {h : HostPort} (ok : PortOk h) {i : Nat} {e : Entry} (he : EligibleAt h.queue i e)
    {stage : Stage} (target : stage ≠ .waiting ∧ stage ≠ .finished) (level : Nat) : PortOk (Machine.reached h i e stage level) := by
  obtain ⟨places, window, tags, withheld, answers, refusals, order⟩ := ok
  obtain ⟨at_i, waits, room, marks, lines, alone⟩ := he
  obtain ⟨l, r, hq, hl, hset, -⟩ := queue_split at_i
  have begun' : isBegun { e with stage := stage, level := level } = true := isBegun_iff.2 target
  have earlier (x : Entry) (hx : x ∈ l) : ∃ j, j < i ∧ h.queue[j]? = some x := by
    obtain ⟨j, hj⟩ := List.mem_iff_getElem?.1 (hl ▸ hx)
    rw [List.getElem?_take] at hj
    split at hj
    · rename_i lt; exact ⟨j, lt, hj⟩
    · cases hj
  unfold Machine.reached
  rw [hset]
  have unbegun : isBegun e = false := isBegun_waiting waits
  rw [hq] at places window tags withheld answers order room
  simp only [List.pairwise_append, List.pairwise_cons, List.forall_mem_cons] at order
  obtain ⟨ol, ⟨oe, or⟩, olr⟩ := order
  refine { places := ?_, window := ?_, tags := ?_, withheld := ?_, answers := ?_, refusals := refusals, order := ?_ }
  · simpa using places
  · simp only [List.filter_append, List.filter_cons, begun', unbegun, if_true, if_false, Bool.false_eq_true,
      List.length_append, List.length_cons] at room ⊢
    omega
  · simpa only [unwithheld_tags_replaced l r (e := e) (e' := { e with stage := stage, level := level }) rfl rfl] using tags
  · intro x hx hxw
    simp only [List.mem_append, List.mem_cons] at hx
    rcases hx with hx | rfl | hx
    · exact withheld x (by simp [hx]) hxw
    · exact begun'
    · exact withheld x (by simp [hx]) hxw
  · simpa [waits, target.2] using answers
  · simp only [List.pairwise_append, List.pairwise_cons, List.forall_mem_cons]
    refine ⟨ol, ⟨fun y hy => (oe y hy).mono rfl rfl (fun _ => by simp [waits]) id, or⟩, fun x hx => ⟨fun _ hf => ?_,
      (olr x hx).2⟩⟩
    obtain ⟨j, hj, hxj⟩ := earlier x hx
    have xRequest : reqKind x.req ≠ .mark := fun hm => hf (marks j x hj hxj hm)
    have eRequest : reqKind e.req ≠ .mark := fun hm => hf ((alone hm).1 j x hj hxj)
    exact ⟨xRequest, eRequest, fun hline => hf (lines eRequest j x hj hxj xRequest hline)⟩

/-! ## The queue halted, the HRST line (R141, R153) -/

theorem PortOk.haltQueue {h : HostPort} (ok : PortOk h) : PortOk h.haltQueue := by
  obtain ⟨places, window, tags, withheld, answers, refusals, order⟩ := ok
  have halted_begun (e : Entry) : isBegun (if e.stage = .waiting then { e with stage := .finished } else e) = isBegun e := by
    split
    · rename_i hs; simp [isBegun, hs]
    · rfl
  unfold HostPort.haltQueue
  refine { places := ?_, window := ?_, tags := ?_, withheld := ?_, answers := ?_, refusals := ?_, order := ?_ }
  · simpa using places
  · rw [List.filter_map, List.length_map]
    exact (congrArg (fun f => (h.queue.filter f).length ≤ 4) (funext halted_begun)).mpr window
  · convert tags using 1
    generalize h.queue = q
    induction q with
    | nil => rfl
    | cons e q ih => by_cases hs : e.stage = .waiting <;> by_cases hw : e.withheld <;> simp_all
  · intro e he hw
    obtain ⟨x, hx, rfl⟩ := List.mem_map.1 he
    rw [halted_begun]
    exact withheld x hx (by split at hw <;> exact hw)
  · have split_tags : ∀ q : List Entry,
        (((q.map fun e => if e.stage = .waiting then { e with stage := .finished } else e).filter
          fun e => e.stage == .finished).map fun e => e.req.tag).Perm
        (((q.filter fun e => e.stage == .finished).map fun e => e.req.tag) ++
          ((q.filter fun e => e.stage == .waiting).map fun e => e.req.tag)) := by
      intro q
      induction q with
      | nil => rfl
      | cons e q ih =>
        by_cases hs : e.stage = .waiting
        · simpa [hs] using (ih.cons e.req.tag).trans List.perm_middle.symm
        · by_cases hf : e.stage = .finished <;> simp [hs, hf] <;> simpa using ih
    refine List.Perm.trans ?_ (split_tags h.queue).symm
    have fresh : ∀ q : List Entry, ((q.map fun e => (⟨e.req.tag, .halted, 0#512, false⟩ : Response)).filter
        fun r => !r.refusal).map Response.tag = q.map fun e => e.req.tag := by
      intro q; induction q <;> simp_all
    rw [List.filter_append, List.map_append, fresh]
    exact answers.append_right _
  · have none : ((h.queue.filter fun e => e.stage == .waiting).map
        fun e => (⟨e.req.tag, .halted, 0#512, false⟩ : Response)).filter Response.refusal = [] := by
      rw [List.filter_eq_nil_iff]
      intro r hr
      obtain ⟨_, -, rfl⟩ := List.mem_map.1 hr
      simp
    rw [List.filter_append, none, List.append_nil]
    exact refusals
  · refine List.pairwise_map.2 (order.imp fun {x y} hxy => hxy.mono ?_ ?_ ?_ ?_)
    · split <;> rfl
    · split <;> rfl
    · split
      · exact fun hf => absurd rfl hf
      · exact id
    · rw [halted_begun]; exact id

theorem PortOk.hrstAsserted {h : HostPort} (ok : PortOk h) : PortOk h.hrstAsserted := by
  obtain ⟨places, window, tags, withheld, answers, refusals, order⟩ := ok
  unfold HostPort.hrstAsserted
  have begun : (h.queue.filter fun e => begunStage e.stage) = h.queue.filter isBegun :=
    congrArg (fun f => h.queue.filter f) (funext begunStage_eq_isBegun)
  rw [begun]
  have kept (e : Entry) (he : e ∈ (h.queue.filter isBegun).map fun e => { e with withheld := true }) :
      e.withheld = true ∧ isBegun e = true := by
    obtain ⟨x, hx, rfl⟩ := List.mem_map.1 he
    exact ⟨rfl, (List.mem_filter.1 hx).2⟩
  refine { places := ?_, window := ?_, tags := ?_, withheld := fun e he _ => (kept e he).2, answers := ?_,
           refusals := by simp, order := ?_ }
  · simpa using (List.length_filter_le _ _).trans places
  · exact (List.length_filter_le _ _).trans (by simpa using window)
  · rw [List.filter_eq_nil_iff.2 fun e he => by simp [(kept e he).1]]
    simp
  · have none : (((h.queue.filter isBegun).map fun e => { e with withheld := true }).filter
        fun e => e.stage == .finished) = [] :=
      List.filter_eq_nil_iff.2 fun e he => by simpa using not_finished_of_isBegun (kept e he).2
    simp only [none, List.map_nil, List.filter_nil, List.Perm.refl]
  · exact List.pairwise_map.2 ((order.sublist List.filter_sublist).imp fun {x y} hxy => hxy.mono rfl rfl id id)

theorem PortOk.released {h : HostPort} (ok : PortOk h) (level : Bool) : PortOk { h with hrst := level } :=
  ⟨ok.places, ok.window, ok.tags, ok.withheld, ok.answers, ok.refusals, ok.order⟩

theorem PortOk.empty (level : Bool) : PortOk ⟨level, [], []⟩ := by
  constructor <;> simp

end Sys2Proof.Machine

/-!
What the part's work keeps and lets grow, as one relation between the part before and after (`Moves`): the invariant of each
host port (R146 to R151), one claim entry for a line (R23), no host write in the anchor area (R68), and the latches, the mask
and the counters (R167, R170, R171). It is closed under each named operation, and a command's own lemma follows the text of
its meaning.
-/
namespace Sys2Proof.Machine

-- One proof at a time: each would otherwise hold a thread of its own.
set_option Elab.async false

/-! ## The relation -/

/-- Every counter is at least as high (R171). -/
structure PortCounters.Grow (c c' : PortCounters) : Prop where
  images : c.images ≤ c'.images
  commits : c.commits ≤ c'.commits
  hostAbandons : c.hostAbandons ≤ c'.hostAbandons
  forcedAbandons : c.forcedAbandons ≤ c'.forcedAbandons
  refusals : ∀ k : Fin 15, c.refusals[k] ≤ c'.refusals[k]

/-- Every counter of the part is at least as high (R171). -/
structure Counters.Grow (c c' : Counters) : Prop where
  anchorWrites : c.anchorWrites ≤ c'.anchorWrites
  arrayErrors : c.arrayErrors ≤ c'.arrayErrors
  arrayTimeouts : c.arrayTimeouts ≤ c'.arrayTimeouts
  lateResponses : c.lateResponses ≤ c'.lateResponses
  badFrames : c.badFrames ≤ c'.badFrames
  port : ∀ p, (c.port.get p).Grow (c'.port.get p)

/-- The invariants kept from one state of the part to another. -/
structure Keeps (d e : Device) : Prop where
  ports : ∀ p, PortOk (d.host.get p) → PortOk (e.host.get p)
  claims : ClaimInv d.claims → ClaimInv e.claims
  clear : HostWritesClear d → HostWritesClear e

/-- The invariants kept, and latches, mask and counters as they were or grown. -/
structure Moves (d e : Device) : Prop extends Keeps d e where
  latches : d.alerts.latches ||| e.alerts.latches = e.alerts.latches
  mask : e.alerts.mask = d.alerts.mask
  counters : d.counters.Grow e.counters

theorem le_bump (c : BitVec 32) : c ≤ bump c := by
  unfold bump
  split
  · exact BitVec.le_refl c
  · rename_i h
    have small : c.toNat ≠ 2 ^ 32 - 1 := fun hc => h (BitVec.eq_of_toNat_eq (by simpa using hc))
    rw [BitVec.le_def, BitVec.toNat_add]
    have := c.isLt
    simp
    omega

theorem PortCounters.Grow.refl (c : PortCounters) : c.Grow c :=
  ⟨BitVec.le_refl _, BitVec.le_refl _, BitVec.le_refl _, BitVec.le_refl _, fun _ => BitVec.le_refl _⟩

theorem PortCounters.Grow.trans {a b c : PortCounters} (h : a.Grow b) (g : b.Grow c) : a.Grow c :=
  ⟨BitVec.le_trans h.1 g.1, BitVec.le_trans h.2 g.2, BitVec.le_trans h.3 g.3, BitVec.le_trans h.4 g.4,
    fun k => BitVec.le_trans (h.5 k) (g.5 k)⟩

theorem PortCounters.grow_refuse (c : PortCounters) (code : RespCode) : c.Grow (c.refuse code) := by
  unfold PortCounters.refuse
  split
  · exact .refl c
  · refine { PortCounters.Grow.refl c with refusals := fun k => ?_ }
    rename_i n _
    by_cases hk : n = k.val
    · subst hk; simp [le_bump]
    · simp [hk]

theorem Counters.Grow.refl (c : Counters) : c.Grow c :=
  ⟨BitVec.le_refl _, BitVec.le_refl _, BitVec.le_refl _, BitVec.le_refl _, BitVec.le_refl _, fun _ => .refl _⟩

theorem Counters.Grow.trans {a b c : Counters} (h : a.Grow b) (g : b.Grow c) : a.Grow c :=
  ⟨BitVec.le_trans h.1 g.1, BitVec.le_trans h.2 g.2, BitVec.le_trans h.3 g.3, BitVec.le_trans h.4 g.4,
    BitVec.le_trans h.5 g.5, fun p => (h.6 p).trans (g.6 p)⟩

theorem Keeps.refl (d : Device) : Keeps d d := ⟨fun _ => id, id, id⟩

theorem Moves.refl (d : Device) : Moves d d := ⟨.refl d, by simp, rfl, .refl _⟩

section
variable {d e : Device}

/-! ## The parts one at a time -/

/-- What the invariants do not speak of may change. -/
theorem Keeps.frame (h : Keeps d e) {t : Device} (host : t.host = e.host := by rfl) (claims : t.claims = e.claims := by rfl)
    (hostReq : t.array.hostReq = e.array.hostReq := by rfl)
    (outstanding : t.array.outstanding = e.array.outstanding := by rfl)
    (queue : t.journal.queue = e.journal.queue := by rfl) (append : t.journal.append = e.journal.append := by rfl) :
    Keeps d t := by
  refine ⟨fun p => host ▸ h.ports p, claims ▸ h.claims, fun hd => ?_⟩
  obtain ⟨h1, h2, h3, h4, h5⟩ := h.clear hd
  exact ⟨hostReq ▸ h1, outstanding ▸ h2, host ▸ h3, queue ▸ h4, append ▸ h5⟩

theorem Moves.frame (h : Moves d e) {t : Device} (host : t.host = e.host := by rfl) (claims : t.claims = e.claims := by rfl)
    (hostReq : t.array.hostReq = e.array.hostReq := by rfl)
    (outstanding : t.array.outstanding = e.array.outstanding := by rfl)
    (queue : t.journal.queue = e.journal.queue := by rfl) (append : t.journal.append = e.journal.append := by rfl)
    (alerts : t.alerts = e.alerts := by rfl) (counters : t.counters = e.counters := by rfl) : Moves d t := by
  exact ⟨h.toKeeps.frame host claims hostReq outstanding queue append, alerts ▸ h.latches, alerts ▸ h.mask,
    counters ▸ h.counters⟩

/-- The stages of a begun write. -/
def WriteStage (s : Stage) : Prop := s = .plain ∨ s = .preRead ∨ s = .append ∨ s = .target

theorem Moves.onHost (h : Moves d e) (p : Port) {f : HostPort → HostPort}
    (ok : PortOk (e.host.get p) → PortOk (f (e.host.get p)))
    (writes : HostWritesClear d → ∀ x ∈ (f (e.host.get p)).queue, WriteStage x.stage →
      4 ≤ reqLine x.req ∨ ∃ y ∈ (e.host.get p).queue, WriteStage y.stage ∧ reqLine y.req = reqLine x.req) :
    Moves d (e.onHost p f) := by
  have at_port (r : Port) : r = p ∧ (e.onHost p f).host.get r = f (e.host.get p) ∨
      (e.onHost p f).host.get r = e.host.get r := by
    by_cases hr : r = p
    · exact .inl ⟨hr, by simp [hr]⟩
    · exact .inr (by simp [PerPort.get_set_of_ne _ _ hr])
  refine ⟨⟨fun r hd => ?_, h.claims, fun hd => ?_⟩, h.latches, h.mask, h.counters⟩
  · rcases at_port r with ⟨rfl, hr⟩ | hr
    · exact hr ▸ ok (h.ports r hd)
    · exact hr ▸ h.ports r hd
  · obtain ⟨h1, h2, h3, h4, h5⟩ := h.clear hd
    refine ⟨h1, h2, fun r x hx stage => ?_, h4, h5⟩
    rcases at_port r with ⟨rfl, hr⟩ | hr
    · rw [hr] at hx
      rcases writes hd x hx stage with clear | ⟨y, hy, was, line⟩
      · exact clear
      · exact line ▸ h3 r y hy was
    · exact h3 r x (hr ▸ hx) stage

theorem Moves.latch (h : Moves d e) (l : Latch) : Moves d (e.latch l) := by
  refine ⟨h.toKeeps.frame, ?_, h.mask, h.counters⟩
  simp only [Device.latch_alerts]
  rw [← BitVec.or_assoc, h.latches]

theorem Moves.countPort (h : Moves d e) (p : Port) {f : PortCounters → PortCounters}
    (grow : (e.counters.port.get p).Grow (f (e.counters.port.get p))) : Moves d (e.countPort p f) := by
  refine ⟨h.toKeeps.frame, h.latches, h.mask, h.counters.trans { Counters.Grow.refl _ with port := fun r => ?_ }⟩
  by_cases hr : r = p
  · subst hr; simpa using grow
  · simpa [PerPort.get_set_of_ne _ _ hr] using .refl _

theorem Moves.count (h : Moves d e) {c : Counters} (grow : e.counters.Grow c) : Moves d { e with counters := c } :=
  ⟨h.toKeeps.frame, h.latches, h.mask, h.counters.trans grow⟩

theorem Moves.countImage (h : Moves d e) (p : Port) : Moves d (e.countImage p) :=
  h.countPort p { PortCounters.Grow.refl _ with images := le_bump _ }

theorem Moves.countCommit (h : Moves d e) (p : Port) : Moves d (e.countCommit p) :=
  h.countPort p { PortCounters.Grow.refl _ with commits := le_bump _ }

theorem Moves.countHostAbandon (h : Moves d e) (p : Port) : Moves d (e.countHostAbandon p) :=
  h.countPort p { PortCounters.Grow.refl _ with hostAbandons := le_bump _ }

theorem Moves.countForcedAbandon (h : Moves d e) (p : Port) : Moves d (e.countForcedAbandon p) :=
  h.countPort p { PortCounters.Grow.refl _ with forcedAbandons := le_bump _ }

theorem Moves.countRefusal (h : Moves d e) (p : Port) (code : RespCode) : Moves d (e.countRefusal p code) :=
  h.countPort p (PortCounters.grow_refuse _ code)

theorem Moves.countAnchorWrite (h : Moves d e) : Moves d e.countAnchorWrite :=
  h.count { Counters.Grow.refl _ with anchorWrites := le_bump _ }

theorem Moves.countArrayError (h : Moves d e) : Moves d e.countArrayError :=
  h.count { Counters.Grow.refl _ with arrayErrors := le_bump _ }

theorem Moves.countArrayTimeout (h : Moves d e) : Moves d e.countArrayTimeout :=
  h.count { Counters.Grow.refl _ with arrayErrors := le_bump _, arrayTimeouts := le_bump _ }

theorem Moves.countLateResponse (h : Moves d e) : Moves d e.countLateResponse :=
  h.count { Counters.Grow.refl _ with lateResponses := le_bump _ }

theorem Moves.countBadFrame (h : Moves d e) : Moves d e.countBadFrame :=
  h.count { Counters.Grow.refl _ with badFrames := le_bump _ }

/-- The entries of a table are entries of another, by slot and line: none is new and none changes its line. -/
def SameLines (t t' : ClaimTable) : Prop :=
  ∀ (i : Fin 256) x', t'.slots[i] = some x' → ∃ x, t.slots[i] = some x ∧ x.line = x'.line

theorem SameLines.claimInv {t t' : ClaimTable} (h : SameLines t t') (inv : ClaimInv t) : ClaimInv t' := by
  intro i j x y hx hy line
  obtain ⟨x0, hx0, hxl⟩ := h i x hx
  obtain ⟨y0, hy0, hyl⟩ := h j y hy
  exact inv i j x0 y0 hx0 hy0 (hxl.trans (line.trans hyl.symm))

theorem Moves.setClaims (h : Moves d e) {t : ClaimTable} (inv : ClaimInv e.claims → ClaimInv t) :
    Moves d { e with claims := t } :=
  { h with claims := fun hd => inv (h.claims hd), clear := fun hd => h.clear hd }

theorem ClaimTable.put_slots (t : ClaimTable) (i j : Fin 256) (v : Option Claim) :
    (t.put i v).slots[j] = if i = j then v else t.slots[j] := by
  simp only [ClaimTable.put, Fin.getElem_fin, Vector.getElem_set, Fin.ext_iff]

theorem SameLines.update (t : ClaimTable) (i : Fin 256) {f : Claim → Option Claim}
    (line : ∀ c c', f c = some c' → c.line = c'.line) : SameLines t (t.update i f) := by
  intro j x' hx'
  unfold ClaimTable.update at hx'
  split at hx'
  · rename_i c hc
    rw [ClaimTable.put_slots] at hx'
    split at hx'
    · rename_i hij
      subst hij
      exact ⟨c, hc, line c x' hx'⟩
    · exact ⟨x', hx', rfl⟩
  · exact ⟨x', hx', rfl⟩

theorem SameLines.refl (t : ClaimTable) : SameLines t t := fun _ x' h => ⟨x', h, rfl⟩

theorem SameLines.setImage (t : ClaimTable) (line level position : Nat) : SameLines t (t.setImage line level position) := by
  unfold ClaimTable.setImage
  split
  · exact .update t _ fun c c' h => by obtain rfl := Option.some.inj h; rfl
  · exact .refl t

theorem SameLines.undo (t : ClaimTable) (line : Nat) : SameLines t (t.undo line) := by
  unfold ClaimTable.undo
  split
  · refine .update t _ fun c c' h => ?_
    split at h
    · cases h
    · obtain rfl := Option.some.inj h; rfl
  · exact .refl t

theorem SameLines.restored (t : ClaimTable) (i : Fin 256) (kind : JobKind) : SameLines t (t.restored i kind) := by
  unfold ClaimTable.restored
  split
  · intro j x' hx'
    rw [ClaimTable.put_slots] at hx'
    split at hx'
    · cases hx'
    · exact ⟨x', hx', rfl⟩
  · refine .update t _ fun c c' h => ?_
    dsimp only at h
    split at h
    · cases h
    · obtain rfl := Option.some.inj h; rfl

theorem mergeClaim_line (p : Port) (level : Nat) (c : Claim) : (mergeClaim p level c).line = c.line := by
  unfold mergeClaim
  split
  · split <;> rfl
  · rfl

theorem SameLines.merge (t : ClaimTable) (p : Port) (level : Nat) : SameLines t (t.merge p level) := by
  intro i x' hx'
  rw [ClaimTable.merge_slots, Option.map_eq_some_iff] at hx'
  obtain ⟨x, hx, rfl⟩ := hx'
  exact ⟨x, hx, (mergeClaim_line p level x).symm⟩

theorem SameLines.freeAll (t : ClaimTable) (p : Port) : SameLines t (t.freeAll p) := by
  intro i x' hx'
  simp only [ClaimTable.freeAll, Fin.getElem_fin, Vector.getElem_map, Option.bind_eq_some_iff] at hx'
  obtain ⟨x, hx, h⟩ := hx'
  split at h
  · cases h
  · exact ⟨x, hx, by obtain rfl := Option.some.inj h; rfl⟩

/-- The journal writer's queue and append hold items they held, the append perhaps one of the queue. -/
theorem Moves.setJournal (h : Moves d e) {j : Journal} (queue : ∀ i ∈ j.queue, i ∈ e.journal.queue)
    (append : ∀ a, j.append = some a →
      a.item ∈ e.journal.queue ∨ ∃ b, e.journal.append = some b ∧ b.item = a.item) :
    Moves d { e with journal := j } := by
  refine { h with clear := fun hd => ?_ }
  obtain ⟨h1, h2, h3, h4, h5⟩ := h.clear hd
  refine ⟨h1, h2, h3, fun i hi => h4 i (queue i hi), fun a ha source line body record => ?_⟩
  rcases append a ha with hi | ⟨b, hb, hba⟩
  · exact h4 _ hi source line body record
  · exact h5 b hb (hba ▸ source) line body (hba ▸ record)

theorem Moves.enqueue (h : Moves d e) {i : Item}
    (clear : HostWritesClear d → i.source = .write → ∀ line body, i.record = .image line body → 4 ≤ line) :
    Moves d (e.enqueue i) := by
  refine { h with clear := fun hd => ?_ }
  obtain ⟨h1, h2, h3, h4, h5⟩ := h.clear hd
  refine ⟨h1, h2, h3, fun x hx => ?_, h5⟩
  rcases List.mem_append.1 hx with hx | hx
  · exact h4 x hx
  · obtain rfl := List.mem_singleton.1 hx
    exact clear hd

theorem Moves.askHost (h : Moves d e) (p : Port) {a : Access}
    (clear : HostWritesClear d → (∀ line, a ≠ .readLine line) → 4 ≤ accessLine a) : Moves d (e.askHost p a) := by
  refine { h with clear := fun hd => ?_ }
  obtain ⟨h1, h2, h3, h4, h5⟩ := h.clear hd
  refine ⟨fun r x hx write => ?_, h2, h3, h4, h5⟩
  unfold Device.askHost at hx
  by_cases hr : r = p
  · subst hr
    simp only [PerPort.get_set_self, List.mem_append, List.mem_singleton] at hx
    rcases hx with hx | rfl
    · exact h1 r x hx write
    · exact clear hd write
  · simp only [PerPort.get_set_of_ne _ _ hr] at hx
    exact h1 r x hx write

theorem Moves.endAccess (h : Moves d e) : Moves d e.endAccess := by
  refine { h with clear := fun hd => ?_ }
  obtain ⟨h1, -, h3, h4, h5⟩ := h.clear hd
  exact ⟨h1, fun o p none => by simp at none, h3, h4, h5⟩

/-- A fold over a list moves on with each of its steps. -/
theorem Moves.foldl {α : Type} (h : Moves d e) (l : List α) {f : Device → α → Device}
    (step : ∀ {t} x, Moves d t → Moves d (f t x)) : Moves d (l.foldl f e) := by
  induction l generalizing e with
  | nil => exact h
  | cons x l ih => exact ih (step x h)

/-! ## Requests (R150, R151) -/

theorem mem_answered {h : HostPort} {i : Nat} {e x : Entry} {code : RespCode} {data : LineData}
    (hx : x ∈ (answered h i e code data).queue) : x ∈ h.queue ∨ x.stage = .finished := by
  unfold answered at hx
  split at hx
  · exact .inl (List.eraseIdx_subset hx)
  · rcases List.mem_or_eq_of_mem_set hx with hx | rfl
    · exact .inl hx
    · exact .inr rfl

theorem mem_reached {h : HostPort} {i : Nat} {e x : Entry} {stage : Stage} {level : Nat}
    (hx : x ∈ (reached h i e stage level).queue) : x ∈ h.queue ∨ x = { e with stage := stage, level := level } :=
  List.mem_or_eq_of_mem_set hx

/-- A request that is not finished is answered. -/
theorem Moves.finishAt (h : Moves d e) (p : Port) (f : HostPort → Option Nat) (code : RespCode) (data : LineData)
    (unfinished : ∀ i x, f (e.host.get p) = some i → (e.host.get p).queue[i]? = some x → x.stage ≠ .finished) :
    Moves d (e.onHost p fun h => match f h with
      | some i => h.finishAt i code data
      | none => h) := by
  have same {i : Nat} (hx : (e.host.get p).queue[i]? = none) := HostPort.finishAt_none hx code data
  cases hf : f (e.host.get p) with
  | none => exact h.onHost p (by simp [hf]) fun _ x hx stage => .inr ⟨x, by simpa [hf] using hx, stage, rfl⟩
  | some i =>
    cases hx : (e.host.get p).queue[i]? with
    | none =>
      exact h.onHost p (by simp [hf, same hx]) fun _ x hx' stage =>
        .inr ⟨x, by simpa [hf, same hx] using hx', stage, rfl⟩
    | some x =>
      have eq := HostPort.finishAt_eq hx code data
      refine h.onHost p ?_ fun _ y hy stage => ?_
      · simpa only [hf, eq] using fun ok => ok.answered hx (unfinished i x hf hx) code data
      · simp only [hf, eq] at hy
        rcases mem_answered hy with hy | hy
        · exact .inr ⟨y, hy, stage, rfl⟩
        · simp [hy, WriteStage] at stage

theorem Moves.answerLine (h : Moves d e) (p : Port) (line : Nat) (code : RespCode) (data : LineData) :
    Moves d (e.answerLine p line code data) := by
  refine h.finishAt p (fun h => h.lineIndex line) code data fun i x hi hx => ?_
  obtain ⟨y, hy, begun, -⟩ := HostPort.lineIndex_spec hi
  obtain rfl := Option.some.inj (hx.symm.trans hy)
  exact not_finished_of_isBegun begun

theorem Moves.answerMark (h : Moves d e) (p : Port) (code : RespCode) : Moves d (e.answerMark p code) := by
  refine h.finishAt p HostPort.markIndex code 0#512 fun i x hi hx => ?_
  obtain ⟨y, hy, begun, -⟩ := HostPort.markIndex_spec hi
  obtain rfl := Option.some.inj (hx.symm.trans hy)
  exact not_finished_of_isBegun begun

theorem Moves.answerAt (h : Moves d e) {p : Port} {i : Nat} {x : Entry} (hx : (e.host.get p).queue[i]? = some x)
    (unfinished : x.stage ≠ .finished) (code : RespCode) : Moves d (e.answerAt p i code) := by
  refine h.finishAt p (fun _ => some i) code 0#512 fun j y hj hy => ?_
  obtain rfl := Option.some.inj hj
  obtain rfl := Option.some.inj (hx.symm.trans hy)
  exact unfinished

/-- The begun READ or WRITE of a line reaches a stage; to that of a write with its line at 4 or above, or from one. -/
theorem Moves.stageLine (h : Moves d e) (p : Port) (line : Nat) {stage : Stage}
    (target : stage ≠ .waiting ∧ stage ≠ .finished)
    (write : WriteStage stage → HostWritesClear d → 4 ≤ line) :
    Moves d (e.stageLine p line stage) := by
  cases hi : (e.host.get p).lineIndex line with
  | none =>
    refine h.onHost p (by simp [hi]) fun _ x hx st => .inr ⟨x, ?_, st, rfl⟩
    simpa [hi] using hx
  | some i =>
    obtain ⟨x, hx, begun, -, rfl⟩ := HostPort.lineIndex_spec hi
    have eq := HostPort.stageAt_eq hx stage
    refine h.onHost p ?_ fun hd y hy st => ?_
    · simpa only [hi, eq] using fun ok => ok.reached hx begun target x.level
    · simp only [hi, eq] at hy
      rcases mem_reached hy with hy | rfl
      · exact .inr ⟨y, hy, st, rfl⟩
      · exact .inl (write st hd)

/-- A request that meets the conditions of R150 begins; a write with its line at 4 or above. -/
theorem Moves.beginAt (h : Moves d e) {p : Port} {i : Nat} {x : Entry} (hx : EligibleAt (e.host.get p).queue i x)
    {stage : Stage} (target : stage ≠ .waiting ∧ stage ≠ .finished) (write : WriteStage stage → 4 ≤ reqLine x.req) :
    Moves d (e.beginAt p i stage) := by
  have eq : (e.host.get p).queue.modify i (fun e' => { e' with stage := stage, level := e.depth p }) =
      (Machine.reached (e.host.get p) i x stage (e.depth p)).queue := by
    simp [Machine.reached, List.modify_eq_set_getElem?, hx.1]
  refine h.onHost p (f := fun h => { h with queue := h.queue.modify i fun e' =>
    { e' with stage := stage, level := e.depth p } }) (fun ok => ?_) fun _ y hy st => ?_
  · rw [eq]; exact ok.begins hx target _
  · rcases mem_reached (eq ▸ hy) with hy | rfl
    · exact .inr ⟨y, hy, st, rfl⟩
    · exact .inl (write st)

end
end Sys2Proof.Machine

/-!
`Moves` through the named operations of the part's own work, in the order of the model's text: each operation moves on
what the part before it has reached.
-/
namespace Sys2Proof.Machine

-- One proof at a time: each would otherwise hold a thread of its own.
set_option Elab.async false

section
variable {d e : Device}

/-! ## Shared operations -/

theorem Moves.ite {t : Device} {c : Prop} [Decidable c] (h : Moves d t) (g : Moves d e) : Moves d (if c then t else e) := by
  split
  · exact h
  · exact g

theorem Moves.onScope (h : Moves d e) (p : Port) (f : ScopePort → ScopePort) : Moves d (e.onScope p f) := h.frame

theorem Moves.onAnchor (h : Moves d e) (f : AnchorUnit → AnchorUnit) : Moves d (e.onAnchor f) := h.frame

theorem Moves.onRecovery (h : Moves d e) (f : RecoveryEngine → RecoveryEngine) : Moves d (e.onRecovery f) := h.frame

theorem Moves.reply (h : Moves d e) (code : ReplyCode) (payload : List Byte) : Moves d (e.reply code payload) := h.frame

theorem Moves.askUpdate (h : Moves d e) : Moves d e.askUpdate := by
  unfold Device.askUpdate
  split
  · exact h.frame
  · exact h

theorem Moves.lagCheck (h : Moves d e) : Moves d e.lagCheck := by
  unfold Device.lagCheck
  split
  · exact h.askUpdate
  · exact h

theorem Moves.jlowCheck (h : Moves d e) : Moves d e.jlowCheck := by
  unfold Device.jlowCheck
  split
  · exact h.latch _
  · exact h

theorem Moves.recompute (h : Moves d e) (p : Port) : Moves d (e.recompute p) := by
  unfold Device.recompute
  refine Moves.lagCheck ?_
  split
  · exact h.frame
  · exact h

theorem Moves.faultJournal (h : Moves d e) : Moves d e.faultJournal :=
  Moves.latch (Moves.latch (h.frame (t := { e with journal := { e.journal with faulted := true } })) _) _

theorem Moves.takeForced (h : Moves d e) (p : Port) (cause : AbandonCause) : Moves d (e.takeForced p cause) := by
  unfold Device.takeForced
  split
  · exact h.frame
  · exact h

theorem Moves.settle (h : Moves d e) (p : Port) : Moves d (e.settle p) := by
  unfold Device.settle
  split
  · exact h.frame
  · exact h

theorem Moves.wedge (h : Moves d e) (p : Port) : Moves d (e.wedge p) := (h.onScope p _).latch _

theorem Moves.takeExpiry (h : Moves d e) (p : Port) : Moves d (e.takeExpiry p) := by
  unfold Device.takeExpiry
  dsimp only
  split
  · exact (h.latch _).onScope p _
  · exact (h.latch _).takeForced p _

theorem Moves.forceReply (h : Moves d e) (p : Port) (code : ReplyCode) (scopes lines : Nat) :
    Moves d (e.forceReply p code scopes lines) := by
  unfold Device.forceReply
  split
  · exact h.reply _ _
  · exact h

theorem Moves.leaveJob (h : Moves d e) (p : Port) : Moves d (e.leaveJob p) := by
  unfold Device.leaveJob
  split
  · exact (h.onScope p _).settle p
  · exact h.onScope p _

theorem Moves.hostAbandonDone (h : Moves d e) (p : Port) (level : Nat) : Moves d (e.hostAbandonDone p level) := by
  unfold Device.hostAbandonDone
  have popped : Moves d (e.onScope p fun s => { s with stack := s.stack.tail }) := h.onScope p _
  have checked := Moves.ite (c := level = 1) (popped.recompute p) popped
  exact ((Moves.ite (checked.takeForced p _) checked).leaveJob p).answerMark p _

theorem Moves.forcedAbandonDone (h : Moves d e) (p : Port) (lines : Nat) : Moves d (e.forcedAbandonDone p lines) :=
  (((h.onScope p _).recompute p).leaveJob p).forceReply p _ _ _

theorem Moves.endJob (h : Moves d e) (j : Job) (o : JobOutcome) : Moves d (e.endJob j o) := by
  have dropped : Moves d (e.dropJob j) := h.frame
  unfold Device.endJob
  dsimp only
  split
  · exact dropped.hostAbandonDone _ _
  · exact (dropped.wedge _).answerMark _ _
  · exact (dropped.wedge _).answerMark _ _
  · exact dropped.answerMark _ _
  · exact dropped.forcedAbandonDone _ _
  · exact (dropped.wedge _).forceReply _ _ _ _
  · exact (dropped.wedge _).forceReply _ _ _ _
  · exact dropped

theorem Moves.failRecovery (h : Moves d e) (cause : FailCause) : Moves d (e.failRecovery cause) := h.faultJournal.frame

/-! ## Recovery engine -/

theorem Moves.recoveryComplete (h : Moves d e) : Moves d e.recoveryComplete := by
  unfold Device.recoveryComplete
  exact Moves.latch h.frame _

theorem Moves.recoveryFinish (h : Moves d e) : Moves d e.recoveryFinish := by
  unfold Device.recoveryFinish
  split
  · exact h.recoveryComplete
  · exact h.frame

theorem Moves.handClosing (h : Moves d e) (p : Port) (x : ScanEntry) : Moves d (e.handClosing p x) :=
  (h.onRecovery _).enqueue fun _ source => by cases source

theorem Moves.nextClosing (h : Moves d e) : Moves d e.nextClosing := by
  unfold Device.nextClosing
  split
  · exact h.handClosing _ _
  · split
    · exact h.handClosing _ _
    · exact h.recoveryFinish

theorem Moves.recoveryDurable (h : Moves d e) (i : Item) : Moves d (e.recoveryDurable i) := by
  have closed : Moves d (e.onScan i.port fun s => { s with stack := s.stack.tail }) := h.frame
  have cleared := Moves.ite (c := i.level = 1) (closed.frame (t := { e.onScan i.port fun s => { s with stack := s.stack.tail }
    with journal := { e.journal with treeStart := e.journal.treeStart.set i.port none } })) closed
  unfold Device.recoveryDurable
  exact cleared.nextClosing.ite (cleared.onRecovery _)

theorem Moves.walkTo (h : Moves d e) (p : Port) (c : Nat) : Moves d (e.walkTo p c) := h.frame

theorem Moves.walksDone (h : Moves d e) : Moves d e.walksDone := (h.onRecovery _).nextClosing

theorem Moves.walkPort (h : Moves d e) (p : Port) {next : Device} (hn : Moves d next) : Moves d (e.walkPort p next) := by
  unfold Device.walkPort
  dsimp only
  split
  · exact hn
  · split
    · exact h.walkTo _ _
    · exact h.failRecovery _

theorem Moves.walkFromP1 (h : Moves d e) : Moves d e.walkFromP1 := h.walkPort .p1 h.walksDone

theorem Moves.walkFromP0 (h : Moves d e) : Moves d e.walkFromP0 := h.walkPort .p0 h.walkFromP1

theorem Moves.walkOn (h : Moves d e) (p : Port) (c : Nat) (prior : Option Nat) : Moves d (e.walkOn p c prior) := by
  unfold Device.walkOn
  split
  · exact h.walkTo _ _
  split
  · split
    · cases p
      · exact h.walkFromP1
      · exact h.walksDone
    · exact h.failRecovery _
  · exact h.failRecovery _

theorem Moves.walkRecord (h : Moves d e) (p : Port) (c : Nat) (hd : Header) (body : Option LineData) :
    Moves d (e.walkRecord p c hd body) := by
  unfold Device.walkRecord
  split
  · split
    · exact h.frame
    · exact h.walkOn _ _ _
  · exact h.failRecovery _

theorem Moves.walkHeaderRead (h : Moves d e) (p : Port) (c : Nat) (line : LineData) :
    Moves d (e.walkHeaderRead p c line) := by
  unfold Device.walkHeaderRead
  dsimp only
  split
  · split
    · exact h.frame
    · exact h.failRecovery _
  · exact h.walkRecord _ _ _ _

theorem Moves.scanEnds (h : Moves d e) : Moves d e.scanEnds := by
  unfold Device.scanEnds
  exact Moves.walkFromP0 h.frame

theorem Moves.scanNext (h : Moves d e) : Moves d e.scanNext := h.frame

theorem Moves.scanTake (h : Moves d e) (hd : Header) : Moves d (e.scanTake hd) := (h.onRecovery _).scanNext

theorem Moves.scanRecord (h : Moves d e) (hd : Header) (body : Option LineData) : Moves d (e.scanRecord hd body) := by
  unfold Device.scanRecord
  split
  · split
    · exact h.scanTake _
    · split
      · exact Moves.scanTake h.frame _
      · exact (h.onRecovery _).scanEnds
  · exact h.scanEnds

theorem Moves.scanHeaderRead (h : Moves d e) (line : LineData) : Moves d (e.scanHeaderRead line) := by
  unfold Device.scanHeaderRead
  dsimp only
  split
  · split
    · exact h.frame
    · exact h.scanRecord _ _
  · exact h.scanEnds

theorem Moves.startRecovery (h : Moves d e) : Moves d e.startRecovery := (h.onRecovery _).scanNext

theorem Moves.recoveryAnswer (h : Moves d e) (answer : Option LineData) : Moves d (e.recoveryAnswer answer) := by
  unfold Device.recoveryAnswer
  split
  · split
    · exact h.failRecovery _
    · exact h.failRecovery _
    · exact h.failRecovery _
    · exact h.failRecovery _
    · exact h.failRecovery _
    · exact h
    · exact h
    · exact h
  · split
    · split
      · exact h.scanHeaderRead _
      · exact h.scanRecord _ _
      · exact h.walkHeaderRead _ _ _
      · exact h.walkRecord _ _ _ _
      · exact h.walkOn _ _ _
      · exact h
      · exact h
      · exact h
    · exact h.onRecovery _

/-! ## Rollback engine -/

theorem Moves.setJob (h : Moves d e) (j : Job) : Moves d (e.setJob j) := h.frame

theorem Moves.enqueueClose (h : Moves d e) (t : Device) (j : Job) (level : Nat) : Moves d (e.enqueue (t.jobClose j level)) :=
  h.enqueue fun _ source => by cases source

theorem Moves.startClosing (h : Moves d e) (j : Job) : Moves d (e.startClosing j) := by
  unfold Device.startClosing
  exact (h.endJob _ _).ite ((h.setJob _).enqueueClose _ _ _)

theorem Moves.search (h : Moves d e) (j : Job) : Moves d (e.search j) := by
  unfold Device.search
  split
  · exact h.endJob _ _
  · split
    · exact h.startClosing _
    · exact h.frame

theorem Moves.takeJob (h : Moves d e) : Moves d e.takeJob := by
  unfold Device.takeJob
  split
  · exact h
  · split
    · exact h.search _
    · exact h

theorem Moves.restoreFailed (h : Moves d e) (j : Job) : Moves d (e.restoreFailed j) := (h.latch _).endJob _ _

theorem Moves.lineRestored (h : Moves d e) (j : Job) (x : InHand) : Moves d (e.lineRestored j x) := by
  have freed : Moves d { e with claims := e.claims.restored x.slot j.kind, rollback := { e.rollback with hand := none } } :=
    (h.setClaims (SameLines.restored e.claims x.slot j.kind).claimInv).frame
  unfold Device.lineRestored
  dsimp only
  split
  · exact freed.endJob _ _
  · exact freed.search _

theorem Moves.rollbackAnswer (h : Moves d e) (answer : Option LineData) : Moves d (e.rollbackAnswer answer) := by
  unfold Device.rollbackAnswer
  split
  · split
    · exact h.restoreFailed _
    · split
      · exact h.frame
      · dsimp only
        split
        · exact h.frame
        · exact h.restoreFailed _
      · exact h.lineRestored _ _
  · exact h

theorem Moves.rollbackDurable (h : Moves d e) (i : Item) : Moves d (e.rollbackDurable i) := by
  unfold Device.rollbackDurable
  split
  · exact h
  · split
    · exact h.endJob _ _
    · dsimp only
      split
      · exact h.endJob _ _
      · split
        · exact h.endJob _ _
        · exact (h.setJob _).enqueueClose _ _ _

theorem Moves.rollbackRefused (h : Moves d e) (i : Item) : Moves d (e.rollbackRefused i) := by
  unfold Device.rollbackRefused
  split
  · exact h
  · exact h.endJob _ _

theorem Moves.rollbackDropped (h : Moves d e) (i : Item) : Moves d (e.rollbackDropped i) := by
  unfold Device.rollbackDropped
  split
  · exact h
  · exact h.endJob _ _

/-! ## Journal writer -/

/-- The front item leaves the queue. -/
theorem Moves.behind (h : Moves d e) {i : Item} {behind : List Item} (queue : e.journal.queue = i :: behind) :
    Moves d { e with journal := { e.journal with queue := behind, held := none } } :=
  h.setJournal (fun _ hx => queue ▸ List.mem_cons_of_mem _ hx) fun a ha => .inr ⟨a, ha, rfl⟩

theorem Moves.issueAppend (h : Moves d e) {i : Item} {behind : List Item} (queue : e.journal.queue = i :: behind) :
    Moves d (e.issueAppend i behind) := by
  unfold Device.issueAppend
  dsimp only
  split
  · exact h
  · refine Moves.frame (h.setJournal (j := { e.journal with queue := behind, held := none, append := some ⟨i, _, _, _⟩ })
      ?_ ?_)
    · exact fun x hx => queue ▸ List.mem_cons_of_mem _ hx
    · rintro a ha
      obtain rfl := Option.some.inj ha
      exact .inl (queue ▸ List.mem_cons_self)

theorem Moves.imageDurable (h : Moves d e) (p : Port) (level line position : Nat)
    (clear : HostWritesClear d → 4 ≤ line) : Moves d (e.imageDurable p level line position) := by
  have image : Moves d { e with claims := e.claims.setImage line level position } :=
    h.setClaims (SameLines.setImage e.claims line level position).claimInv
  have count := image.countImage p
  unfold Device.imageDurable
  dsimp only
  split
  · exact count
  · split
    · exact count
    · rename_i i hi _ x hx
      obtain ⟨y, hy, -, -, hline⟩ := HostPort.lineIndex_spec hi
      obtain rfl := Option.some.inj (hx.symm.trans hy)
      refine (count.stageLine p line ⟨by simp, by simp⟩ fun _ => clear).askHost p fun hd _ => ?_
      have : accessLine (writeAccess x.req) = reqLine x.req := by unfold writeAccess; split <;> rfl
      rw [this, hline]
      exact clear hd

theorem Moves.openDurable (h : Moves d e) (i : Item) (position : Nat) : Moves d (e.openDurable i position) := by
  unfold Device.openDurable
  refine Moves.answerMark (Moves.ite ?_ ?_) _ _
  · exact h.frame
  · exact h.frame

theorem Moves.mergeDurable (h : Moves d e) (p : Port) (level : Nat) : Moves d (e.mergeDurable p level) :=
  Moves.answerMark (Moves.onScope (h.setClaims (SameLines.merge e.claims p level).claimInv) p _) p _

theorem Moves.commitDurable (h : Moves d e) (p : Port) : Moves d (e.commitDurable p) :=
  Moves.answerMark (Moves.countCommit (Moves.recompute (Moves.onScope
    (h.setClaims (SameLines.freeAll e.claims p).claimInv) p _) p) p) p _

theorem Moves.tellDurable (h : Moves d e) (i : Item) (position : Nat)
    (clear : HostWritesClear d → i.source = .write → ∀ line body, i.record = .image line body → 4 ≤ line) :
    Moves d (e.tellDurable i position) := by
  unfold Device.tellDurable
  split
  · rename_i source
    split
    · rename_i line body record
      exact h.imageDurable _ _ _ _ fun hd => clear hd source line body record
    · exact h
    · exact h
  · split
    · exact h.openDurable _ _
    · split
      · exact h.commitDurable _
      · exact h.mergeDurable _ _
    · exact h
  · exact h.rollbackDurable _
  · exact h.recoveryDurable _

theorem Moves.appendDurable (h : Moves d e) {a : Append} (ha : e.journal.append = some a) : Moves d (e.appendDurable a) := by
  unfold Device.appendDurable
  have after : Moves d { e with journal := e.journal.afterAppend a } :=
    h.setJournal (fun _ => id) fun b hb => by cases hb
  exact after.jlowCheck.lagCheck.tellDurable _ _ fun hd => (h.clear hd).2.2.2.2 a ha

theorem Moves.rerunTimer (h : Moves d e) (p : Port) : Moves d (e.rerunTimer p) := by
  unfold Device.rerunTimer
  split
  · dsimp only
    split
    · exact (h.onScope p _).takeExpiry p
    · exact h.onScope p _
  · exact h

theorem Moves.undoClaim (h : Moves d e) (line : Nat) : Moves d { e with claims := e.claims.undo line } :=
  h.setClaims (SameLines.undo e.claims line).claimInv

theorem Moves.refuseItem (h : Moves d e) (code : RespCode) (i : Item) : Moves d (e.refuseItem code i) := by
  unfold Device.refuseItem
  split
  · split
    · exact (h.undoClaim _).answerLine _ _ _ _
    · exact h
    · exact h
  · dsimp only
    split
    · exact h.answerMark _ _
    · split
      · exact (h.answerMark _ _).rerunTimer _
      · exact h.answerMark _ _
    · exact h.answerMark _ _
  · exact h.rollbackRefused _
  · exact h.failRecovery _

theorem Moves.refuseQueue (h : Moves d e) : Moves d e.refuseQueue := by
  unfold Device.refuseQueue
  refine Moves.foldl (h.setJournal (j := { e.journal with queue := [], held := none }) (by simp) fun a ha => ?_) _
    fun x ht => ht.refuseItem _ x
  exact .inr ⟨a, ha, rfl⟩

theorem Moves.appendFailed (h : Moves d e) (a : Append) : Moves d (e.appendFailed a) := by
  unfold Device.appendFailed
  have ended : Moves d { e with journal := { e.journal with append := none } } :=
    h.setJournal (fun _ => id) fun b hb => by cases hb
  exact (ended.faultJournal.refuseItem _ _).refuseQueue

theorem Moves.journalAnswer (h : Moves d e) (answer : Option LineData) : Moves d (e.journalAnswer answer) := by
  unfold Device.journalAnswer
  split
  · exact h
  · rename_i a ha
    split
    · exact h.appendFailed a
    · split
      · refine Moves.frame (h.setJournal (j := { e.journal with append := some { a with rest := _ } }) (fun _ => id) ?_)
        rintro b hb
        obtain rfl := Option.some.inj hb
        exact .inr ⟨a, ha, rfl⟩
      · exact h.appendDurable ha

theorem Moves.applyTable (h : Moves d e) {i : Item} {behind : List Item} (queue : e.journal.queue = i :: behind) :
    Moves d (e.applyTable i behind) := by
  have refused (code : RespCode) :
      Moves d ({ e with journal := { e.journal with queue := behind, held := none } }.refuseItem code i) :=
    (h.behind queue).refuseItem code i
  unfold Device.applyTable
  dsimp only
  split
  · exact refused _
  split
  · exact h.issueAppend queue
  split
  · split
    · exact Moves.askUpdate h.frame
    split
    · exact h.frame
    · exact refused _
  · exact refused _

theorem Moves.takeItem (h : Moves d e) : Moves d e.takeItem := by
  unfold Device.takeItem
  split
  · exact h
  · split
    · exact h.applyTable ‹_›
    · exact h

theorem Moves.retakeItem (h : Moves d e) : Moves d e.retakeItem := by
  unfold Device.retakeItem
  split
  · exact h
  · split
    · exact h.applyTable ‹_›
    · exact h

theorem Moves.dropItem (h : Moves d e) (i : Item) : Moves d (e.dropItem i) := by
  unfold Device.dropItem
  split
  · exact h.rollbackDropped _
  · exact h.onRecovery _
  · exact h
  · exact h

theorem Moves.refuseHeld (h : Moves d e) : Moves d e.refuseHeld := by
  unfold Device.refuseHeld
  split
  · exact h
  · rename_i i behind queue
    split
    · exact (h.behind queue).refuseItem _ i
    · exact h

theorem Moves.dropItems (h : Moves d e) : Moves d e.dropItems := by
  unfold Device.dropItems
  have kept (held : Option Hold) : Moves d { e with journal := { e.journal with
      queue := e.journal.queue.filter fun i => !droppedAtStop i, held := held } } :=
    h.setJournal (fun x hx => (List.mem_filter.1 hx).1) fun a ha => .inr ⟨a, ha, rfl⟩
  exact (kept _).foldl _ fun x ht => ht.dropItem x

theorem Moves.stopWriter (h : Moves d e) : Moves d e.stopWriter := h.refuseHeld.dropItems

/-! ## Anchor unit -/

theorem Moves.beginCopy (h : Moves d e) (v : Setup) (purpose : Purpose) : Moves d (e.beginCopy v purpose) := h.frame

theorem Moves.beginUpdate (h : Moves d e) : Moves d e.beginUpdate := by
  unfold Device.beginUpdate
  split
  · exact (h.onAnchor _).beginCopy _ _
  · exact h

theorem Moves.updateReply (h : Moves d e) (code : ReplyCode) : Moves d (e.updateReply code) := by
  unfold Device.updateReply
  split
  · exact h.reply _ _
  · exact h

theorem Moves.releaseHold (h : Moves d e) (told : Bool) (tail : Nat) (tailSeq : BitVec 32) :
    Moves d { e with journal := { e.journal.releaseHold told with tail := tail, tailSeq := tailSeq } } := by
  obtain ⟨x, hx⟩ := e.journal.releaseHold_spec told
  rw [hx]
  exact h.frame

theorem Moves.updateDurable (h : Moves d e) (u : Update) : Moves d (e.updateDurable u) := by
  have counted := ((h.onAnchor fun a => (a.copyDurable u).endCovered).releaseHold
    (decide (e.anchor.writerReq = .covered)) u.values.tail u.values.tailSeq).countAnchorWrite
  have told (c : Prop) [Decidable c] {t : Device} (ht : Moves d t) : Moves d (if c then t.updateReply .done else t) := by
    split
    · exact ht.updateReply _
    · exact ht
  unfold Device.updateDurable
  refine Moves.lagCheck ?_
  dsimp only
  split
  · exact (told _ counted).recoveryComplete
  · exact told _ counted

theorem Moves.loadSetup (h : Moves d e) (v : Setup) : Moves d (e.loadSetup v) := h.frame

theorem Moves.formatDurable (h : Moves d e) (u : Update) : Moves d (e.formatDurable u) := by
  have counted := (h.onAnchor fun a => { a.copyDurable u with format := none }).countAnchorWrite
  have fresh := counted.setJournal (j := { Journal.cleared with
    base := u.values.base, lines := u.values.lines, lowWater := u.values.lowWater, epoch := u.values.epoch })
    (by simp [Journal.cleared]) (by simp [Journal.cleared])
  have loaded := ((fresh.loadSetup u.values).onScope .p0 fun s => { s with serialCounter := 0#16 }).onScope .p1
    fun s => { s with serialCounter := 0#16 }
  unfold Device.formatDurable
  dsimp only
  split
  · exact Moves.reply loaded.frame _ _
  · exact loaded.frame

theorem Moves.copyLineDone (h : Moves d e) (u : Update) : Moves d (e.copyLineDone u) := by
  unfold Device.copyLineDone
  split
  · split
    · exact h.updateDurable u
    · exact h.updateDurable u
    · exact h.formatDurable u
  · exact h.frame

theorem Moves.updateFailed (h : Moves d e) : Moves d e.updateFailed := by
  unfold Device.updateFailed
  dsimp only
  split
  · exact (h.onAnchor _).faultJournal.refuseQueue.updateReply _
  · exact (h.onAnchor _).faultJournal.refuseQueue

theorem Moves.copyWriteFailed (h : Moves d e) (u : Update) : Moves d (e.copyWriteFailed u) := by
  unfold Device.copyWriteFailed
  split
  · exact h.updateFailed
  · exact (h.onAnchor _).failRecovery _
  · have media := (h.onAnchor fun a => { a.copyFailed with format := none }).latch .media
    have faulted := fun accepted : PartState => Moves.ite (c := accepted = .running) media.faultJournal.refuseQueue
      (Moves.ite (c := e.journal.faulted = true) media.faultJournal media)
    exact ((faulted _).reply _ _).ite (faulted _)

theorem Moves.formatCopy (h : Moves d e) : Moves d e.formatCopy := by
  unfold Device.formatCopy
  split
  · exact h
  · split
    · exact (h.onAnchor _).beginCopy _ _
    · exact h

theorem Moves.anchorSelect (h : Moves d e) (reads : List (Option LineData)) : Moves d (e.anchorSelect reads) := by
  unfold Device.anchorSelect
  dsimp only
  split
  · exact h.frame
  · have loaded (c : Copy) (g : BitVec 32) (v : Setup) (o : Bool) :
        Moves d ((e.onAnchor fun a => { a with cold := none }).loadCopy c g v o) := h.frame
    split
    · exact Moves.startRecovery (loaded _ _ _ _).frame
    · exact (loaded _ _ _ _).failRecovery _

theorem Moves.coldAnswer (h : Moves d e) (reads : List (Option LineData)) (answer : Option LineData) :
    Moves d (e.coldAnswer reads answer) := by
  have heard : Moves d (match answer with
      | some _ => e
      | none => (e.latch .media).onRecovery fun r => { r with anchorError := true }) := by
    split
    · exact h
    · exact (h.latch _).onRecovery _
  unfold Device.coldAnswer
  refine .ite (heard.onAnchor _) (.ite ?_ (heard.anchorSelect _))
  exact heard.frame

theorem Moves.anchorAnswer (h : Moves d e) (answer : Option LineData) : Moves d (e.anchorAnswer answer) := by
  unfold Device.anchorAnswer
  split
  · exact h.coldAnswer _ _
  split
  · exact h
  split
  · exact h.copyLineDone _
  · exact h.copyWriteFailed _

/-! ## Host ports -/

theorem Moves.takeResponse (h : Moves d e) (p : Port) : Moves d (e.takeResponse p) := by
  unfold Device.takeResponse
  split
  · exact h
  · refine (h.onHost p PortOk.respond fun _ x hx stage => .inr ⟨x, ?_, stage, rfl⟩).countRefusal p _
    unfold HostPort.respond at hx
    split at hx
    · exact hx
    split at hx
    · exact hx
    · exact List.eraseP_subset hx

theorem Moves.hostMedia (h : Moves d e) (p : Port) (line : Nat) : Moves d (e.hostMedia p line) :=
  (h.latch _).answerLine _ _ _ _

theorem Moves.hostAnswer (h : Moves d e) (p : Port) (line : Nat) (answer : Option LineData) :
    Moves d (e.hostAnswer p line answer) := by
  unfold Device.hostAnswer
  split
  · exact h
  rename_i i hi
  split
  · exact h
  rename_i x hx
  have clear (stage : x.stage = .preRead) (hd : HostWritesClear d) : 4 ≤ reqLine x.req :=
    (h.clear hd).2.2.1 p x (List.mem_of_getElem? hx) (.inr (.inl stage))
  have line_eq : reqLine x.req = line := by
    obtain ⟨y, hy, -, -, hline⟩ := HostPort.lineIndex_spec hi
    exact Option.some.inj (hx.symm.trans hy) ▸ hline
  split
  · exact h.answerLine _ _ _ _
  · exact h.hostMedia _ _
  · exact h.answerLine _ _ _ _
  · exact h.hostMedia _ _
  · rename_i stage
    refine (h.stageLine p line ⟨by simp, by simp⟩ fun _ hd => line_eq ▸ clear stage hd).enqueue ?_
    intro hd _ line' body record
    obtain ⟨rfl, -⟩ := ItemRecord.image.inj record
    exact clear stage hd
  · exact (h.undoClaim _).hostMedia _ _
  · exact h.answerLine _ _ _ _
  · exact h.hostMedia _ _
  all_goals exact h

/-! ## Array port -/

theorem Moves.deliver (h : Moves d e) (o : Outstanding) (answer : Option LineData) : Moves d (e.deliver o answer) := by
  unfold Device.deliver
  split
  · exact h.anchorAnswer _
  · exact h.journalAnswer _
  · exact h.rollbackAnswer _
  · exact h.recoveryAnswer _
  · exact h.hostAnswer _ _ _

theorem Moves.arrayAnswer (h : Moves d e) (number : BitVec 4) (ok : Bool) (data : LineData) :
    Moves d (e.arrayAnswer number ok data) := by
  unfold Device.arrayAnswer
  split
  · exact h.countLateResponse
  split
  · split
    · exact h.endAccess.deliver _ _
    · exact h.endAccess.countArrayError.deliver _ _
  · exact h.countLateResponse

theorem Moves.arrayTimeout (h : Moves d e) : Moves d e.arrayTimeout := by
  unfold Device.arrayTimeout
  split
  · exact h
  · exact h.endAccess.countArrayTimeout.deliver _ _

/-- The request chosen is one that waited, and none is added. -/
theorem ArrayPort.choose_spec {a a' : ArrayPort} {x : Access} {who : Requester} (h : a.choose = some (x, who, a')) :
    (∀ p, ∀ y ∈ a'.hostReq.get p, y ∈ a.hostReq.get p) ∧ ∀ p, who = .host p → x ∈ a.hostReq.get p := by
  unfold ArrayPort.choose at h
  split at h
  · cases h; exact ⟨fun _ _ => id, nofun⟩
  split at h
  · cases h; exact ⟨fun _ _ => id, nofun⟩
  split at h
  · cases h; exact ⟨fun _ _ => id, nofun⟩
  split at h
  · cases h; exact ⟨fun _ _ => id, nofun⟩
  split at h
  · cases h
  rename_i p _
  split at h
  · cases h
  rename_i y rest hreq
  cases h
  refine ⟨fun r z hz => ?_, fun r hr => ?_⟩
  · by_cases hrp : r = p
    · subst hrp
      rw [PerPort.get_set_self] at hz
      exact hreq ▸ List.mem_cons_of_mem _ hz
    · rwa [PerPort.get_set_of_ne _ _ hrp] at hz
  · cases hr
    exact hreq ▸ List.mem_cons_self

theorem Moves.grant (h : Moves d e) : Moves d { e with array := e.array.grant } := by
  unfold ArrayPort.grant
  split
  · exact h.frame
  split
  · exact h.frame
  rename_i x who a hc
  obtain ⟨kept, own⟩ := ArrayPort.choose_spec hc
  refine { h with clear := fun hd => ?_ }
  obtain ⟨h1, -, h3, h4, h5⟩ := h.clear hd
  refine ⟨fun p y hy => h1 p y (kept p y hy), fun o p ho hp => ?_, h3, h4, h5⟩
  obtain rfl := Option.some.inj ho
  exact h1 p x (own p hp)

/-! ## Engines, part control -/

theorem Moves.clearPending (h : Moves d e) (p : Port) : Moves d (e.clearPending p) := h.frame

theorem Moves.settleAbandon (h : Moves d e) (p : Port) (cause : AbandonCause) : Moves d (e.settleAbandon p cause) := by
  unfold Device.settleAbandon
  dsimp only
  split
  · exact ((h.countForcedAbandon p).clearPending p).forceReply _ _ _ _
  split
  · refine Moves.forceReply ?_ _ _ _ _
    split
    · exact (h.clearPending p).settle p
    · exact (h.clearPending p).onScope p _
  split
  · exact (((h.clearPending p).wedge p).countForcedAbandon p).forceReply _ _ _ _
  · exact (h.countForcedAbandon p).frame

theorem Moves.abandonWaitEnd (h : Moves d e) (p : Port) : Moves d (e.abandonWaitEnd p) := by
  unfold Device.abandonWaitEnd
  split
  · exact h
  split
  · split
    · exact h.settleAbandon _ _
    · unfold Device.dropAbandon
      dsimp only
      split
      · exact (h.clearPending p).forceReply _ _ _ _
      · exact h.clearPending p
  · exact h

theorem Moves.ageExpiry (h : Moves d e) (p : Port) : Moves d (e.ageExpiry p) := by
  unfold Device.ageExpiry
  split
  · exact h.takeExpiry p
  · exact h

theorem Moves.tick (h : Moves d e) : Moves d e.tick := by
  unfold Device.tick
  split
  · exact h
  · exact (h.onScope _ _).onScope _ _

theorem Moves.startUp (h : Moves d e) : Moves d e.startUp := h.frame

theorem Moves.safeEntry (h : Moves d e) : Moves d e.safeEntry := by
  unfold Device.safeEntry
  split
  · have waits := (h.abandonWaitEnd .p0).abandonWaitEnd .p1
    have safe := (Moves.latch (waits.frame (t := { (e.abandonWaitEnd .p0).abandonWaitEnd .p1 with part := .safe })) .safe).onAnchor
      fun a => { a with format := none }
    dsimp only
    split
    · exact safe.reply _ _
    · exact safe
    · exact safe
  · exact h

theorem Moves.haltQueue (h : Moves d e) (p : Port) : Moves d (e.onHost p HostPort.haltQueue) := by
  refine h.onHost p PortOk.haltQueue fun _ x hx stage => ?_
  obtain ⟨y, hy, rfl⟩ := List.mem_map.1 hx
  split at stage
  · simp [WriteStage] at stage
  · exact .inr ⟨y, hy, stage, by split <;> rfl⟩

theorem Moves.stopJobs (h : Moves d e) : Moves d e.stopJobs := by
  unfold Device.stopJobs
  exact h.foldl _ fun j ht => ht.endJob j _

theorem Moves.enterStopping (h : Moves d e) : Moves d e.enterStopping := by
  have halted (c : Bool) (p : Port) {t : Device} (ht : Moves d t) :
      Moves d (if c = true then t.onHost p HostPort.haltQueue else t) := by
    split
    · exact ht.haltQueue p
    · exact ht
  have timers : Moves d (Device.stopTimers { e with part := .stopping, choice := e.choice + 2 }) := h.frame
  unfold Device.enterStopping
  exact ((halted _ .p1 (halted _ .p0 timers)).stopWriter.stopJobs.haltQueue .p0).haltQueue .p1

theorem Moves.startOrStop (h : Moves d e) : Moves d e.startOrStop := by
  unfold Device.startOrStop
  split
  · exact h
  split
  · exact h.enterStopping.safeEntry
  · exact h.startUp

theorem Moves.pwrwarnAssert (h : Moves d e) : Moves d e.pwrwarnAssert := by
  have asserted : Moves d { e with pwrwarn := true } := h.frame
  unfold Device.pwrwarnAssert
  dsimp only
  split
  · exact h
  split
  · exact asserted
  split
  · exact asserted
  · exact asserted.enterStopping

theorem Moves.noteReset (h : Moves d e) (p : Port) : Moves d (e.noteReset p) := by
  have noted : Moves d (e.onScope p fun s => { s with state := .resetting, resetNoted := true }) := h.onScope p _
  unfold Device.noteReset
  dsimp only
  split
  · exact h
  · exact h.onScope p _
  all_goals
    split
    · exact noted.takeForced p _
    · exact noted

theorem Moves.hrstAssert (h : Moves d e) (p : Port) : Moves d (e.hrstAssert p) := by
  unfold Device.hrstAssert
  split
  · exact h
  · refine (h.onHost p PortOk.hrstAsserted fun _ x hx stage => ?_).noteReset p
    obtain ⟨y, hy, rfl⟩ := List.mem_map.1 hx
    exact .inr ⟨y, (List.mem_filter.1 hy).1, stage, rfl⟩

theorem Moves.hrstRelease (h : Moves d e) (p : Port) : Moves d (e.hrstRelease p) := by
  unfold Device.hrstRelease
  split
  · exact (h.onHost p (fun ok => ok.released false) fun _ x hx stage => .inr ⟨x, hx, stage, rfl⟩).settle p
  · exact h

end
end Sys2Proof.Machine

/-!
`Moves` through the commands that begin requests, the management commands and the resets; then the statements about every
step (O20, O28, O38, O60).
-/
namespace Sys2Proof.Machine

-- One proof at a time: each would otherwise hold a thread of its own.
set_option Elab.async false

/-! ## Requests that begin -/

/-- What a command's choice of a request rests on: the request waits, is of the kind wanted and, where its own checks
follow, meets the conditions of R150. -/
theorem Device.nextBegin_spec {d : Device} {p : Port} {wanted : Request → Bool} {i : Nat} {e : Entry}
    {code : Option RespCode} (h : d.nextBegin p wanted = some (i, e, code)) :
    (d.host.get p).queue[i]? = some e ∧ wanted e.req = true ∧ e.stage = .waiting ∧
      (code = none → EligibleAt (d.host.get p).queue i e) := by
  have picked {o : Option Nat} {c : Option RespCode}
      (hp : (match o with
        | none => none
        | some i =>
          match (d.host.get p).queue[i]? with
          | none => none
          | some e => if wanted e.req then some (i, e, c) else none) = some (i, e, code)) :
      o = some i ∧ (d.host.get p).queue[i]? = some e ∧ wanted e.req = true ∧ c = code := by
    split at hp
    · cases hp
    split at hp
    · cases hp
    split at hp
    · rename_i hx hw
      simp only [Option.some.injEq, Prod.mk.injEq] at hp
      obtain ⟨rfl, rfl, rfl⟩ := hp
      exact ⟨rfl, hx, hw, rfl⟩
    · cases hp
  have eligible_at (hx : (d.host.get p).queue[i]? = some e) (ok : eligible (d.host.get p).queue i = true) :
      EligibleAt (d.host.get p).queue i e := by
    obtain ⟨e', he'⟩ := (eligible_iff _ i).1 ok
    obtain rfl := Option.some.inj (hx.symm.trans he'.1)
    exact he'
  have found {test : Entry → Bool} (hx : (d.host.get p).queue[i]? = some e)
      (hf : (d.host.get p).queue.findIdx? test = some i) : test e = true := by
    obtain ⟨hl, ht, -⟩ := List.findIdx?_eq_some_iff_getElem.1 hf
    obtain rfl := Option.some.inj (hx.symm.trans (List.getElem?_eq_getElem hl))
    exact ht
  unfold Device.nextBegin at h
  dsimp only at h
  split at h
  · cases h
  · obtain ⟨hi, hx, hw, rfl⟩ := picked h
    exact ⟨hx, hw, by simpa using found hx hi, nofun⟩
  · split at h
    · rename_i x hp
      cases h
      obtain ⟨hi, hx, hw, rfl⟩ := picked hp
      have := found hx hi
      simp only [Bool.and_eq_true, beq_iff_eq] at this
      exact ⟨hx, hw, this.1, nofun⟩
    · obtain ⟨hi, hx, hw, rfl⟩ := picked h
      have ok := List.find?_some hi
      simp only [Bool.and_eq_true] at ok
      exact ⟨hx, hw, (eligible_at hx ok.1).2.1, fun _ => eligible_at hx ok.1⟩
  · obtain ⟨hi, hx, hw, rfl⟩ := picked h
    have ok := ((oldestEligible_spec _ i).1 hi).1
    exact ⟨hx, hw, (eligible_at hx ok).2.1, fun _ => eligible_at hx ok⟩

theorem not_finished_of_waiting {e : Entry} (h : e.stage = .waiting) : e.stage ≠ .finished := by simp [h]

section
variable {d e : Device}

theorem Moves.beginRead (h : Moves d e) (p : Port) : Moves d (e.beginRead p) := by
  unfold Device.beginRead
  split
  · exact h
  · rename_i i x code hb
    obtain ⟨hx, -, waits, -⟩ := Device.nextBegin_spec hb
    exact h.answerAt hx (not_finished_of_waiting waits) _
  · rename_i i x hb
    obtain ⟨hx, -, waits, ok⟩ := Device.nextBegin_spec hb
    have unfinished := not_finished_of_waiting waits
    refine (h.answerAt hx unfinished _).ite ((h.answerAt hx unfinished _).ite (.ite ?_ ?_))
    · exact h.beginAt (ok rfl) ⟨by simp, by simp⟩ (by simp [WriteStage])
    · exact (h.beginAt (ok rfl) ⟨by simp, by simp⟩ (by simp [WriteStage])).askHost p
        fun _ write => absurd rfl (write _)

theorem Moves.clearHazard (h : Moves d e) (p : Port) (line : Nat) : Moves d (e.clearHazard p line) := by
  unfold Device.clearHazard
  split
  · exact h
  split
  · exact h
  refine .ite ?_ h
  exact (h.stageLine p line ⟨by simp, by simp⟩ (by simp [WriteStage])).askHost p fun _ write => absurd rfl (write _)

/-- A WRITE that passes the checks at its begin lies outside the anchor area (R68). -/
theorem Device.writeOutcome_clear {d : Device} {p : Port} {r : Request}
    (h : d.writeOutcome p r = .forward ∨ d.writeOutcome p r = .claim) : 4 ≤ reqLine r := by
  unfold Device.writeOutcome inAnchorArea at h
  by_contra low
  have inside : decide (reqLine r < Config.anchorLines) = true := decide_eq_true (Nat.lt_of_not_le low)
  simp only [inside, if_true] at h
  split at h
  · simp at h
  split at h <;> simp at h

/-- A claim request answered TAKE IMAGE names the entry of the line, or a free slot where the line has none (R27). -/
theorem Device.claimRequest_image {d : Device} {p : Port} {depth line : Nat} {slot : Fin 256} {fresh : Bool}
    (h : d.claimRequest p depth line = .image slot fresh) :
    (fresh = false ∧ ∃ c, ClaimedAt d.claims line slot c) ∨
      (fresh = true ∧ Unclaimed d.claims line ∧ d.claims.slots[slot] = none) := by
  unfold Device.claimRequest at h
  split at h
  · rename_i i hi
    split at h
    · cases h
    split at h
    · cases h
    split at h
    · cases h
    split at h
    · cases h
    · cases h
      exact .inl ⟨rfl, (d.claims.slotOf_eq_some_iff line _).1 hi⟩
  · rename_i hn
    split at h
    · cases h
    split at h
    · cases h
    · rename_i i hi
      cases h
      exact .inr ⟨rfl, (d.claims.slotOf_eq_none_iff line).1 hn, ((d.claims.freeSlot_eq_some_iff _).1 hi).1⟩

/-- A new entry for an unclaimed line in a free slot leaves one entry for each line (R23). -/
theorem ClaimInv.put {t : ClaimTable} (inv : ClaimInv t) {line : Nat} (unclaimed : Unclaimed t line) (slot : Fin 256)
    {c : Claim} (hc : c.line = line) : ClaimInv (t.put slot (some c)) := by
  intro i j x y hx hy same
  rw [ClaimTable.put_slots] at hx hy
  split at hx <;> split at hy
  · exact ‹slot = i›.symm.trans ‹slot = j›
  · cases hx
    exact absurd (same.symm.trans hc) (unclaimed j y hy)
  · cases hy
    exact absurd (same.trans hc) (unclaimed i x hx)
  · exact inv i j x y hx hy same

theorem Moves.takeImage (h : Moves d e) {p : Port} {depth line : Nat} {slot : Fin 256} {fresh : Bool}
    (request : e.claimRequest p depth line = .image slot fresh) : Moves d (e.takeImage p line slot fresh) := by
  unfold Device.takeImage
  rcases Device.claimRequest_image request with ⟨rfl, -⟩ | ⟨rfl, unclaimed, -⟩
  · exact h.setClaims (SameLines.update e.claims slot fun c c' hc => by obtain rfl := Option.some.inj hc; rfl).claimInv
  · have put := h.setClaims fun inv => inv.put unclaimed slot (c := ⟨line, p, true, noImages⟩) rfl
    exact (put.latch _).ite put

@[simp] theorem Device.takeImage_host (d : Device) (p : Port) (line : Nat) (slot : Fin 256) (fresh : Bool) :
    (d.takeImage p line slot fresh).host = d.host := by
  unfold Device.takeImage
  split
  · dsimp only
    split <;> rfl
  · rfl

theorem accessLine_writeAccess (r : Request) : accessLine (writeAccess r) = reqLine r := by
  unfold writeAccess
  split <;> rfl

theorem Moves.beginWrite (h : Moves d e) (p : Port) : Moves d (e.beginWrite p) := by
  unfold Device.beginWrite
  split
  · exact h
  · rename_i i x code hb
    obtain ⟨hx, -, waits, -⟩ := Device.nextBegin_spec hb
    exact h.answerAt hx (not_finished_of_waiting waits) _
  · rename_i i x hb
    obtain ⟨hx, -, waits, ok⟩ := Device.nextBegin_spec hb
    have unfinished := not_finished_of_waiting waits
    have forwarded (clear : 4 ≤ reqLine x.req) : Moves d ((e.beginAt p i .plain).askHost p (writeAccess x.req)) :=
      (h.beginAt (ok rfl) ⟨by simp, by simp⟩ fun _ => clear).askHost p fun _ _ => (accessLine_writeAccess x.req).symm ▸ clear
    dsimp only
    split
    · exact h.answerAt hx unfinished _
    · rename_i hw
      exact forwarded (Device.writeOutcome_clear (.inl hw))
    · rename_i hw
      have clear := Device.writeOutcome_clear (.inr hw)
      split
      · exact h.answerAt hx unfinished _
      · exact forwarded clear
      · rename_i slot fresh request
        refine ((h.takeImage request).beginAt (x := x) ?_ ⟨by simp, by simp⟩ fun _ => clear).askHost p
          fun _ write => absurd rfl (write _)
        simpa using ok rfl

theorem Moves.runMark (h : Moves d e) {p : Port} {kind : MarkKind} {carry : Nat → Request → Device}
    (carried : ∀ i x, EligibleAt (e.host.get p).queue i x → Moves d (carry i x.req)) :
    Moves d (e.runMark p kind carry) := by
  have chosen {i : Nat} {r : Request} {code : Option RespCode} (hm : e.nextMark p kind = some (i, r, code)) :
      ∃ x, x.req = r ∧ (e.host.get p).queue[i]? = some x ∧ x.stage = .waiting ∧
        (code = none → EligibleAt (e.host.get p).queue i x) := by
    unfold Device.nextMark at hm
    split at hm
    · cases hm
    · rename_i i x c hb
      cases hm
      obtain ⟨hx, -, waits, -⟩ := Device.nextBegin_spec hb
      exact ⟨x, rfl, hx, waits, nofun⟩
    · rename_i i x hb
      cases hm
      obtain ⟨hx, -, waits, ok⟩ := Device.nextBegin_spec hb
      exact ⟨x, rfl, hx, waits, fun _ => ok rfl⟩
  unfold Device.runMark
  split
  · exact h
  · rename_i i r code hm
    obtain ⟨x, -, hx, waits, -⟩ := chosen hm
    exact h.answerAt hx (not_finished_of_waiting waits) _
  · rename_i i r hm
    obtain ⟨x, rfl, -, -, ok⟩ := chosen hm
    exact carried i x (ok rfl)

theorem Moves.marker (h : Moves d e) {p : Port} {i : Nat} {x : Entry} (ok : EligibleAt (e.host.get p).queue i x) :
    Moves d (e.beginAt p i .marker) := h.beginAt ok ⟨by simp, by simp⟩ (by simp [WriteStage])

theorem Moves.openScope (h : Moves d e) (p : Port) (level : Nat) : Moves d (e.openScope p level) :=
  h.enqueue fun _ source => by cases source

theorem Moves.closeScope (h : Moves d e) (p : Port) (level : Nat) : Moves d (e.closeScope p level) := by
  unfold Device.closeScope
  exact (Moves.ite (h.onScope p _) h).enqueue fun _ source => by cases source

theorem Moves.abandonScope (h : Moves d e) (p : Port) (level : Nat) : Moves d (e.abandonScope p level) :=
  Moves.frame (Moves.countHostAbandon (h.onScope p _) p)

/-! ## The management link -/

/-- A command frame changes the link, and the part as the command's own work does (R163, R164). -/
theorem Device.command_ind {P : Device → Prop} {f : Frame} {admitted : PartState → Bool} {run : Device → Device}
    (link : ∀ l, P { d with link := l }) (ran : admitted d.part = true → ∀ l, P (run { d with link := l })) :
    P (d.command f admitted run) := by
  unfold Device.command Device.onFrame
  split
  · dsimp only
    split
    · exact link _
    split
    · exact ran ‹_› _
    · exact link _
  · exact link d.link

theorem Device.bare_ind {P : Device → Prop} {f : Frame} {run : Device → Device} (ran : P (run d))
    (refused : P (d.reply .badParam [])) : P (d.bare f run) := by
  unfold Device.bare
  split
  · exact ran
  · exact refused

theorem Device.oneByte_ind {P : Device → Prop} {f : Frame} {run : Device → Byte → Device} (ran : ∀ a, P (run d a))
    (refused : P (d.reply .badParam [])) : P (d.oneByte f run) := by
  unfold Device.oneByte
  split
  · split
    · exact ran _
    · exact refused
  · exact refused

theorem Device.maskParam_ind {P : Device → Prop} {f : Frame} {run : Device → BitVec 10 → Device} (ran : ∀ a, P (run d a))
    (refused : P (d.reply .badParam [])) : P (d.maskParam f run) := by
  unfold Device.maskParam
  split
  · split
    · exact ran _
    · exact refused
  · exact refused

theorem Moves.command (h : Moves d e) {f : Frame} {admitted : PartState → Bool} {run : Device → Device}
    (ran : ∀ {t}, Moves d t → Moves d (run t)) : Moves d (e.command f admitted run) :=
  Device.command_ind (P := Moves d) (fun _ => h.frame) fun _ _ => ran h.frame

theorem Moves.bare (h : Moves d e) {f : Frame} {run : Device → Device} (ran : Moves d e → Moves d (run e)) :
    Moves d (e.bare f run) := Device.bare_ind (P := Moves d) (ran h) (h.reply _ _)

theorem Moves.oneByte (h : Moves d e) {f : Frame} {run : Device → Byte → Device}
    (ran : Moves d e → ∀ a, Moves d (run e a)) : Moves d (e.oneByte f run) :=
  Device.oneByte_ind (P := Moves d) (ran h) (h.reply _ _)

theorem Keeps.command (h : Keeps d e) {f : Frame} {admitted : PartState → Bool} {run : Device → Device}
    (ran : ∀ l, Keeps d (run { e with link := l })) : Keeps d (e.command f admitted run) :=
  Device.command_ind (P := Keeps d) (fun _ => h.frame) fun _ => ran

theorem Keeps.bare (h : Keeps d e) {f : Frame} {run : Device → Device} (ran : Keeps d (run e)) : Keeps d (e.bare f run) :=
  Device.bare_ind (P := Keeps d) ran h.frame

theorem Keeps.maskParam (h : Keeps d e) {f : Frame} {run : Device → BitVec 10 → Device} (ran : ∀ a, Keeps d (run e a)) :
    Keeps d (e.maskParam f run) := Device.maskParam_ind (P := Keeps d) ran h.frame

theorem Moves.requestUpdate (h : Moves d e) : Moves d e.requestUpdate := h.frame

theorem Moves.setRegionParam (h : Moves d e) (f : Frame) : Moves d (e.setRegionParam f) := by
  have refused (code : ReplyCode) : Moves d (e.reply code []) := h.reply _ _
  unfold Device.setRegionParam
  split
  · refine .ite ?_ (refused _)
    unfold Device.setRegion
    split
    · exact refused _
    · refine (refused _).ite ((refused _).ite (.ite ?_ (refused _)))
      exact h.frame
  · exact refused _

theorem Moves.setDefaultMode (h : Moves d e) (a : Byte) : Moves d (e.setDefaultMode a) := by
  unfold Device.setDefaultMode
  split
  · exact h.reply _ _
  · refine .ite ?_ (h.reply _ _)
    exact h.frame

theorem Moves.setTimerParam (h : Moves d e) (f : Frame) : Moves d (e.setTimerParam f) := by
  unfold Device.setTimerParam
  split
  · split
    · have set := fun p a l => h.onScope p fun s => s.setTimer a l
      exact (Moves.ite ((set _ _ _).takeExpiry _) (set _ _ _)).requestUpdate
    · exact h.reply _ _
  · exact h.reply _ _

theorem Moves.setTimeoutParam (h : Moves d e) (f : Frame) : Moves d (e.setTimeoutParam f) := by
  unfold Device.setTimeoutParam
  split
  · refine .ite ?_ (h.reply _ _)
    exact h.frame
  · exact h.reply _ _

theorem Moves.formatParam (h : Moves d e) (f : Frame) : Moves d (e.formatParam f) := by
  unfold Device.formatParam
  split
  · unfold Device.acceptFormat
    refine .ite (.ite (h.reply _ _) ?_) (h.reply _ _)
    exact h.frame
  · exact h.reply _ _

theorem Moves.forceParam (h : Moves d e) (a : Byte) : Moves d (e.forceParam a) := by
  unfold Device.forceParam
  split
  · unfold Device.forceAbandon
    refine .ite (h.reply _ _) ?_
    exact (h.takeForced _ _).frame
  · exact h.reply _ _

theorem Moves.getScope (h : Moves d e) (a : Byte) : Moves d (e.getScope a) := by
  unfold Device.getScope
  split <;> exact h.reply _ _

theorem Moves.getRegion (h : Moves d e) (a : Byte) : Moves d (e.getRegion a) := by
  unfold Device.getRegion
  split <;> exact h.reply _ _

theorem Moves.getCounters (h : Moves d e) (a : Byte) : Moves d (e.getCounters a) := by
  unfold Device.getCounters
  split <;> exact h.reply _ _

theorem Moves.fetchReply (h : Moves d e) (f : Frame) : Moves d (e.fetchReply f) := by
  unfold Device.fetchReply Device.onFrame
  split
  · dsimp only
    have plain (bytes : List Byte) : Moves d (e.endFrame bytes) := h.frame
    split
    · exact plain _
    · exact (plain _).countBadFrame.ite (plain _)
    · refine (plain _).ite ?_
      unfold Device.serveReply
      refine .ite (.ite ?_ ?_) (plain _)
      · exact Moves.countBadFrame h.frame
      · exact h.frame
  · exact h

theorem Moves.frameCutShort (h : Moves d e) (f : CutFrame) : Moves d (e.frameCutShort f) := by
  unfold Device.frameCutShort Device.onFrame
  split
  · have plain (bytes : List Byte) : Moves d (e.endFrame bytes) := h.frame
    exact (plain _).ite (plain _).countBadFrame
  · exact h

theorem Moves.frameWhileWorking (h : Moves d e) (clocked : Nat) : Moves d (e.frameWhileWorking clocked) := by
  unfold Device.frameWhileWorking
  refine .ite ?_ h
  exact h.frame

end

/-! ## Every command -/

/-- What a part reset leaves meets every invariant (R125). -/
theorem Keeps.of_reset (d t : Device) (host : t.host = ⟨⟨d.host.p0.hrst, [], []⟩, ⟨d.host.p1.hrst, [], []⟩⟩)
    (claims : t.claims = ClaimTable.cleared) (hostReq : t.array.hostReq = ⟨[], []⟩)
    (outstanding : t.array.outstanding = none) (queue : t.journal.queue = []) (append : t.journal.append = none) :
    Keeps d t := by
  refine ⟨fun p _ => ?_, fun _ i j x y hx => ?_, fun _ => ⟨fun p a ha => ?_, fun o p ho => ?_, fun p e he => ?_,
    fun i hi => ?_, fun a ha => ?_⟩⟩
  · rw [host]
    cases p
    · exact .empty _
    · exact .empty _
  · simp [claims, ClaimTable.cleared] at hx
  · rw [hostReq] at ha
    cases p <;> simp at ha
  · simp [outstanding] at ho
  · rw [host] at he
    cases p <;> simp at he
  · simp [queue] at hi
  · simp [append] at ha

theorem Keeps.trans {a b c : Device} (h : Keeps a b) (g : Keeps b c) : Keeps a c :=
  ⟨fun p ok => g.ports p (h.ports p ok), fun ok => g.claims (h.claims ok), fun ok => g.clear (h.clear ok)⟩

theorem Keeps.reset (d : Device) : Keeps d d.reset := .of_reset d _ rfl rfl rfl rfl rfl rfl

/-- Every command but a part reset moves on, but for the latches ACK ALERTS clears, the mask SET ALERT MASK writes and the
counters CLEAR COUNTERS clears. -/
theorem effect_moves (d : Device) (c : Instr) (power : c ≠ .powerOn) (prst : c ≠ .prstAssert)
    (reset : ∀ f, c ≠ .resetPart f) (ack : ∀ f, c ≠ .ackAlerts f) (mask : ∀ f, c ≠ .setAlertMask f)
    (clear : ∀ f, c ≠ .clearCounters f) : Moves d (effect c d) := by
  have h := Moves.refl d
  cases c with
  | powerOn => exact absurd rfl power
  | prstAssert => exact absurd rfl prst
  | resetPart f => exact absurd rfl (reset f)
  | ackAlerts f => exact absurd rfl (ack f)
  | setAlertMask f => exact absurd rfl (mask f)
  | clearCounters f => exact absurd rfl (clear f)
  | prstRelease =>
    have released : Moves d { d with prst := false } := h.frame
    exact released.startOrStop.ite h
  | pwrwarnAssert => exact h.pwrwarnAssert
  | pwrwarnRelease => exact h.frame
  | hrstAssert p => exact h.hrstAssert p
  | hrstRelease p => exact h.hrstRelease p
  | requestTaken p r =>
    refine h.onHost p (f := fun h => h.take r) (fun ok => ok.take r) fun _ x hx stage => ?_
    unfold HostPort.take at hx
    split at hx
    · exact .inr ⟨x, hx, stage, rfl⟩
    split at hx
    · split at hx
      · exact .inr ⟨x, hx, stage, rfl⟩
      · rcases List.mem_append.1 hx with hx | hx
        · exact .inr ⟨x, hx, stage, rfl⟩
        · rw [List.mem_singleton.1 hx] at stage
          simp [WriteStage] at stage
    · exact .inr ⟨x, hx, stage, rfl⟩
  | responseTaken p => exact h.takeResponse p
  | readBegin p => exact h.beginRead p
  | readHazardClear p line => exact h.clearHazard p _
  | writeBegin p => exact h.beginWrite p
  | openMark p => exact h.runMark fun i x ok => (h.marker ok).openScope p _
  | closeMark p => exact h.runMark fun i x ok => (h.marker ok).closeScope p _
  | abandonMark p => exact h.runMark fun i x ok => (h.marker ok).abandonScope p _
  | markKindNone p => exact h.runMark fun i x ok => h.answerAt ok.1 (not_finished_of_waiting ok.2.1) _
  | accessGrant => exact h.grant
  | arrayAnswer number ok data => exact h.arrayAnswer _ _ _
  | arrayResponseTimeout => exact h.arrayTimeout
  | takeAppendItem => exact h.takeItem
  | heldItemRetake => exact h.retakeItem
  | scopeAgeExpiry p => exact h.ageExpiry p
  | forcedAbandonWaitEnd p => exact h.abandonWaitEnd p
  | rollbackJobTake => exact h.takeJob
  | anchorUpdateBegin => exact h.beginUpdate
  | safeEntry => exact h.safeEntry
  | formatCopyWrite => exact h.formatCopy
  | frameWhileWorking n => exact h.frameWhileWorking n
  | frameCutShort f => exact h.frameCutShort f
  | fetchReply f => exact h.fetchReply f
  | badCheck f => exact h.command fun ht => ht.countBadFrame.reply _ _
  | unknown code f => exact h.command fun ht => ht.reply _ _
  | getState f => exact h.command fun ht => ht.bare fun ht => ht.reply _ _
  | getJournal f => exact h.command fun ht => ht.bare fun ht => ht.reply _ _
  | getAlerts f => exact h.command fun ht => ht.bare fun ht => ht.reply _ _
  | syncAnchor f => exact h.command fun ht => ht.bare Moves.requestUpdate
  | getScope f => exact h.command fun ht => ht.oneByte Moves.getScope
  | getClaims f => exact h.command fun ht => ht.oneByte fun ht _ => ht.reply _ _
  | getRegion f => exact h.command fun ht => ht.oneByte Moves.getRegion
  | getCounters f => exact h.command fun ht => ht.oneByte Moves.getCounters
  | setRegion f => exact h.command fun ht => ht.setRegionParam f
  | setDefaultMode f => exact h.command fun ht => ht.oneByte Moves.setDefaultMode
  | setTimer f => exact h.command fun ht => ht.setTimerParam f
  | setArrayTimeout f => exact h.command fun ht => ht.setTimeoutParam f
  | formatJournal f => exact h.command fun ht => ht.formatParam f
  | forceAbandon f => exact h.command fun ht => ht.oneByte Moves.forceParam

/-- Every command keeps the invariants. -/
theorem effect_keeps (d : Device) (c : Instr) : Keeps d (effect c d) := by
  have h := Keeps.refl d
  have link (l : LinkController) : Keeps d { d with link := l } := h.frame
  cases c with
  | powerOn => exact (Keeps.reset d).trans (Moves.refl _).startOrStop.toKeeps
  | prstAssert =>
    change Keeps d (if d.prst then d else { d with prst := true }.reset)
    split
    · exact h
    · exact .of_reset d _ rfl rfl rfl rfl rfl rfl
  | resetPart f =>
    change Keeps d (d.command f admitReset fun d => d.bare f Device.resetPart)
    refine h.command fun l => (link l).bare ?_
    unfold Device.resetPart
    dsimp only
    split
    · exact .of_reset d _ rfl rfl rfl rfl rfl rfl
    · exact .of_reset d _ rfl rfl rfl rfl rfl rfl
  | ackAlerts f =>
    change Keeps d (d.command f admitFormatted fun d => d.maskParam f Device.ackAlerts)
    exact h.command fun l => (link l).maskParam fun _ => h.frame
  | setAlertMask f =>
    change Keeps d (d.command f admitFormatted fun d => d.maskParam f Device.setAlertMask)
    exact h.command fun l => (link l).maskParam fun _ => h.frame
  | clearCounters f =>
    change Keeps d (d.command f admitFormatted fun d => d.bare f Device.clearCounters)
    exact h.command fun l => (link l).bare h.frame
  | _ => exact (effect_moves d _ (by simp) (by simp) (by simp) (by simp) (by simp) (by simp)).toKeeps

/-- Every step keeps the invariants. -/
theorem step_keeps (s : State) : Nexts (step s) fun t => Keeps s.dev t.dev := by
  rw [nexts_step]
  split
  · exact (Moves.refl _).tick.toKeeps
  · exact effect_keeps s.dev _

/-- Settles O20: each port's invariant is kept through every operation on its queue and path. -/
theorem portInvariantIsKept : Obligations.PortInvariantIsKept := fun s h0 h1 =>
  (step_keeps s).mono fun _ kept =>
    ⟨(portInv_iff _).2 (kept.ports .p0 ((portInv_iff _).1 h0)), (portInv_iff _).2 (kept.ports .p1 ((portInv_iff _).1 h1))⟩

/-- Settles O28: a host write is admitted only from line 4 on, and every later form of it names the same line. -/
theorem noHostWriteReachesTheAnchorArea : Obligations.NoHostWriteReachesTheAnchorArea := fun s clear =>
  (step_keeps s).mono fun _ kept => kept.clear clear

/-- Settles O38: an entry is made only for an unclaimed line, and no other change moves an entry to another line. -/
theorem oneClaimForALine : Obligations.OneClaimForALine := fun s inv => (step_keeps s).mono fun _ kept => kept.claims inv

/-- Settles O60: the three commands that lower what is named do so to that alone; every other command moves on. -/
theorem alertsAndCountersOnlyGrow : Obligations.AlertsAndCountersOnlyGrow := by
  rintro ⟨q, d⟩ c power prst reset
  rw [nexts_exec]
  -- The three commands apart write one of the three things alone.
  let Grown (t : Device) : Prop :=
    ((∀ f, c ≠ .ackAlerts f) → d.alerts.latches ||| t.alerts.latches = t.alerts.latches) ∧
    ((∀ f, c ≠ .setAlertMask f) → t.alerts.mask = d.alerts.mask) ∧
    ((∀ f, c ≠ .clearCounters f) → d.counters.Grow t.counters)
  have same (l : LinkController) : Grown { d with link := l } := ⟨fun _ => by simp, fun _ => rfl, fun _ => .refl _⟩
  suffices h : Grown (effect c d) by
    obtain ⟨latches, mask, grow⟩ := h
    refine ⟨latches, mask, fun clear => ?_⟩
    obtain ⟨h1, h2, h3, h4, h5, h6⟩ := grow clear
    exact ⟨h1, h2, h3, h4, h5, fun p => ⟨(h6 p).1, (h6 p).2, (h6 p).3, (h6 p).4, (h6 p).5⟩⟩
  by_cases ack : ∃ f, c = .ackAlerts f
  · obtain ⟨f, rfl⟩ := ack
    refine Device.command_ind (P := Grown) same fun _ l => ?_
    exact Device.maskParam_ind (P := Grown)
      (fun a => ⟨fun other => absurd rfl (other f), fun _ => rfl, fun _ => .refl _⟩) (same _)
  by_cases mask : ∃ f, c = .setAlertMask f
  · obtain ⟨f, rfl⟩ := mask
    refine Device.command_ind (P := Grown) same fun _ l => ?_
    exact Device.maskParam_ind (P := Grown)
      (fun a => ⟨(same l).1, fun other => absurd rfl (other f), fun _ => .refl _⟩) (same _)
  by_cases clear : ∃ f, c = .clearCounters f
  · obtain ⟨f, rfl⟩ := clear
    refine Device.command_ind (P := Grown) same fun _ l => ?_
    exact Device.bare_ind (P := Grown)
      ⟨(same l).1, fun _ => rfl, fun other => absurd rfl (other f)⟩ (same _)
  have moves := effect_moves d c power prst reset (by simpa using ack) (by simpa using mask) (by simpa using clear)
  exact ⟨fun _ => moves.latches, fun _ => moves.mask, fun _ => moves.counters⟩

end Sys2Proof.Machine

/-!
SAFE (R144): with nothing asked of the array and nothing begun, every command but power-on and PRST leaves every block but
the host ports, the link and the lines as it is (O49).
-/
namespace Sys2Proof.Machine

-- One proof at a time: each would otherwise hold a thread of its own.
set_option Elab.async false

/-- Nothing but the host ports without begun requests, the ports' scope states, the link, the alerts and the counters has
changed. -/
structure Held (d t : Device) : Prop where
  part : t.part = d.part
  prst : t.prst = d.prst
  array : t.array = d.array
  journal : t.journal = d.journal
  anchor : t.anchor = d.anchor
  claims : t.claims = d.claims
  regions : t.regions = d.regions
  rollback : t.rollback = d.rollback
  recovery : t.recovery = d.recovery
  stack : ∀ p, (t.scope.get p).stack = (d.scope.get p).stack
  idle : ∀ p, (∀ e ∈ (d.host.get p).queue, isBegun e = false) → ∀ e ∈ (t.host.get p).queue, isBegun e = false

theorem Held.refl (d : Device) : Held d d := ⟨rfl, rfl, rfl, rfl, rfl, rfl, rfl, rfl, rfl, fun _ => rfl, fun _ => id⟩

theorem Held.safeInv {d t : Device} (h : Held d t) (safe : SafeInv d) : SafeInv t := by
  obtain ⟨h1, h2, h3, h4, h5, h6, h7, h8, h9, h10, h11, h12, h13, h14⟩ := safe
  simp only [SafeInv, h.part, h.prst, h.array, h.journal, h.anchor]
  exact ⟨h1, h2, h3, h4, h5, h6, h7, h8, h9, h10, h11, h12, h.idle .p0 h13, h.idle .p1 h14⟩

section
variable {d t : Device}

theorem Held.link (h : Held d t) (l : LinkController) : Held d { t with link := l } := { h with }

theorem Held.lines (h : Held d t) (level : Bool) : Held d { t with pwrwarn := level } := { h with }

theorem Held.count (h : Held d t) (c : Counters) : Held d { t with counters := c } := { h with }

theorem Held.countBadFrame (h : Held d t) : Held d t.countBadFrame := h.count _

theorem Held.onScope (h : Held d t) (p : Port) {f : ScopePort → ScopePort}
    (stack : (f (t.scope.get p)).stack = (t.scope.get p).stack) : Held d (t.onScope p f) :=
  { h with
    stack := fun r => by
      by_cases hr : r = p
      · subst hr; simpa [stack] using h.stack r
      · simpa [PerPort.get_set_of_ne _ _ hr] using h.stack r }

theorem Held.onHost (h : Held d t) (p : Port) {f : HostPort → HostPort}
    (idle : (∀ e ∈ (t.host.get p).queue, isBegun e = false) → ∀ e ∈ (f (t.host.get p)).queue, isBegun e = false) :
    Held d (t.onHost p f) :=
  { h with
    idle := fun r hd => by
      by_cases hr : r = p
      · subst hr; simpa using idle (h.idle r hd)
      · simpa [PerPort.get_set_of_ne _ _ hr] using h.idle r hd }

theorem Held.ite {u : Device} {c : Prop} [Decidable c] (h : Held d t) (g : Held d u) : Held d (if c then t else u) := by
  split
  · exact h
  · exact g

theorem Held.reply (h : Held d t) (code : ReplyCode) (payload : List Byte) : Held d (t.reply code payload) := h.link _

theorem Held.forceReply (h : Held d t) (p : Port) (code : ReplyCode) (scopes lines : Nat) :
    Held d (t.forceReply p code scopes lines) := (h.reply _ _).ite h

theorem Held.settle (h : Held d t) (p : Port) : Held d (t.settle p) := (h.onScope p rfl).ite h

theorem Held.answerAt (h : Held d t) (p : Port) (i : Nat) (code : RespCode) : Held d (t.answerAt p i code) := by
  cases hx : (t.host.get p).queue[i]? with
  | none => exact h.onHost p fun idle => by rwa [HostPort.finishAt_none hx]
  | some x =>
    refine h.onHost p fun idle e he => ?_
    rw [HostPort.finishAt_eq hx] at he
    rcases mem_answered he with he | he
    · exact idle e he
    · exact isBegun_finished he

theorem Held.command (h : Held d t) {f : Frame} {admitted : PartState → Bool} {run : Device → Device}
    (ran : admitted t.part = true → ∀ {u}, Held d u → Held d (run u)) : Held d (t.command f admitted run) :=
  Device.command_ind (P := Held d) h.link fun ok l => ran ok (h.link l)

/-- A command that SAFE does not admit is refused (R143). -/
theorem Held.refused (h : Held d t) {f : Frame} {admitted : PartState → Bool} {run : Device → Device}
    (refused : admitted t.part = false) : Held d (t.command f admitted run) :=
  h.command fun ok => by rw [refused] at ok; cases ok

theorem Held.bare (h : Held d t) {f : Frame} {run : Device → Device} (ran : Held d t → Held d (run t)) :
    Held d (t.bare f run) := Device.bare_ind (P := Held d) (ran h) (h.reply _ _)

theorem Held.oneByte (h : Held d t) {f : Frame} {run : Device → Byte → Device}
    (ran : Held d t → ∀ a, Held d (run t a)) : Held d (t.oneByte f run) :=
  Device.oneByte_ind (P := Held d) (ran h) (h.reply _ _)

end

/-! ## The commands in SAFE -/

section
variable {d : Device} (safe : SafeInv d)
include safe

theorem SafeInv.idle (p : Port) : ∀ e ∈ (d.host.get p).queue, isBegun e = false := by
  obtain ⟨-, -, -, -, -, -, -, -, -, -, -, -, h0, h1⟩ := safe
  cases p
  · exact h0
  · exact h1

/-- A request that begins in SAFE is answered at once (Table 10-2). -/
theorem SafeInv.nextBegin_code {p : Port} {wanted : Request → Bool} {i : Nat} {e : Entry} {code : Option RespCode}
    (h : d.nextBegin p wanted = some (i, e, code)) : code ≠ none := by
  obtain ⟨hpart, -⟩ := safe
  have row : d.beginRow p = .hold ∨ d.beginRow p = .halted := by
    unfold Device.beginRow
    dsimp only
    split
    · exact .inl rfl
    · exact .inr (by simp [hpart])
  unfold Device.nextBegin at h
  dsimp only at h
  rcases row with row | row <;> rw [row] at h
  · cases h
  · dsimp only at h
    split at h
    · cases h
    split at h
    · cases h
    split at h <;> cases h
    simp

theorem SafeInv.nextMark_code {p : Port} {kind : MarkKind} {i : Nat} {r : Request} {code : Option RespCode}
    (h : d.nextMark p kind = some (i, r, code)) : code ≠ none := by
  unfold Device.nextMark at h
  split at h
  · cases h
  · cases h; simp
  · rename_i hb
    exact absurd rfl (SafeInv.nextBegin_code safe hb)

theorem SafeInv.runMark (p : Port) (kind : MarkKind) (carry : Nat → Request → Device) :
    Held d (d.runMark p kind carry) := by
  unfold Device.runMark
  split
  · exact .refl d
  · exact (Held.refl d).answerAt p _ _
  · rename_i hm
    exact absurd rfl (SafeInv.nextMark_code safe hm)

theorem SafeInv.beginRead (p : Port) : Held d (d.beginRead p) := by
  unfold Device.beginRead
  split
  · exact .refl d
  · exact (Held.refl d).answerAt p _ _
  · rename_i hb
    exact absurd rfl (SafeInv.nextBegin_code safe hb)

theorem SafeInv.beginWrite (p : Port) : Held d (d.beginWrite p) := by
  unfold Device.beginWrite
  split
  · exact .refl d
  · exact (Held.refl d).answerAt p _ _
  · rename_i hb
    exact absurd rfl (SafeInv.nextBegin_code safe hb)

theorem SafeInv.clearHazard (p : Port) (line : Nat) : d.clearHazard p line = d := by
  unfold Device.clearHazard
  split
  · rfl
  · rename_i i hi
    obtain ⟨e, he, begun, -⟩ := HostPort.lineIndex_spec hi
    rw [SafeInv.idle safe p e (List.mem_of_getElem? he)] at begun
    cases begun

theorem SafeInv.takeForced (p : Port) (cause : AbandonCause) {t : Device} (h : Held d t) : t.takeForced p cause = t := by
  obtain ⟨hpart, -⟩ := h.safeInv safe
  simp [Device.takeForced, hpart]

theorem SafeInv.hrstAssert (p : Port) : Held d (d.hrstAssert p) := by
  unfold Device.hrstAssert
  split
  · exact .refl d
  have dropped : Held d (d.onHost p HostPort.hrstAsserted) := (Held.refl d).onHost p fun idle e he => by
    obtain ⟨x, hx, rfl⟩ := List.mem_map.1 he
    exact idle x (List.mem_filter.1 hx).1
  have noted : Held d ((d.onHost p HostPort.hrstAsserted).onScope p fun s =>
      { s with state := .resetting, resetNoted := true }) := dropped.onScope p rfl
  unfold Device.noteReset
  dsimp only
  split
  · exact dropped
  · exact dropped.onScope p rfl
  · rw [SafeInv.takeForced safe p _ noted]
    exact noted.ite noted
  · rw [SafeInv.takeForced safe p _ noted]
    exact noted.ite noted

theorem SafeInv.hrstRelease (p : Port) : Held d (d.hrstRelease p) :=
  (((Held.refl d).onHost p fun idle => idle).settle p).ite (.refl d)

theorem SafeInv.requestTaken (p : Port) (r : Request) : Held d (d.onHost p fun h => h.take r) := by
  refine (Held.refl d).onHost p fun idle e he => ?_
  unfold HostPort.take at he
  split at he
  · exact idle e he
  split at he
  · split at he
    · exact idle e he
    · rcases List.mem_append.1 he with he | he
      · exact idle e he
      · rw [List.mem_singleton.1 he]; rfl
  · exact idle e he

theorem SafeInv.takeResponse (p : Port) : Held d (d.takeResponse p) := by
  unfold Device.takeResponse
  split
  · exact .refl d
  · refine Held.count ((Held.refl d).onHost p fun idle e he => ?_) _
    unfold HostPort.respond at he
    split at he
    · exact idle e he
    split at he
    · exact idle e he
    · exact idle e (List.eraseP_subset he)

theorem SafeInv.grant : d.array.grant = d.array := by
  obtain ⟨-, -, h1, h2, h3, h4, h5, h6, -⟩ := safe
  simp [ArrayPort.grant, ArrayPort.choose, ArrayPort.hostChoice, h1, h2, h3, h4, h5, h6]

theorem SafeInv.abandonWaitEnd (p : Port) : Held d (d.abandonWaitEnd p) := by
  obtain ⟨hpart, -⟩ := safe
  have h : Held d (d.clearPending p) := (Held.refl d).onScope p rfl
  unfold Device.abandonWaitEnd
  split
  · exact .refl d
  · simp only [hpart, reduceCtorEq, if_false]
    exact ((h.forceReply p _ _ _).ite h).ite (.refl d)

theorem SafeInv.fetchReply (f : Frame) : Held d (d.fetchReply f) := by
  have h := Held.refl d
  unfold Device.fetchReply Device.onFrame
  split
  · have plain (bytes : List Byte) : Held d (d.endFrame bytes) := h.link _
    dsimp only
    split
    · exact plain _
    · exact ((plain _).count _).ite (plain _)
    · refine (plain _).ite ?_
      unfold Device.serveReply
      exact .ite (.ite (.count (h.link _) _) (h.link _)) (plain _)
  · exact h

/-- In SAFE every command but power-on and PRST leaves what R144 holds as it is. -/
theorem SafeInv.effect_held (c : Instr) (power : c ≠ .powerOn) (prst : c ≠ .prstAssert) : Held d (effect c d) := by
  have h := Held.refl d
  obtain ⟨hpart, hprst, hout, -, -, -, -, -, hqueue, -, -, hformat, -⟩ := id safe
  have formatted : admitFormatted d.part = false := by simp [admitFormatted, hpart]
  have running : admitRunning d.part = false := by simp [admitRunning, hpart]
  cases c with
  | powerOn => exact absurd rfl power
  | prstAssert => exact absurd rfl prst
  | prstRelease => simpa [effect, Device.prstRelease, hprst] using h
  | pwrwarnAssert =>
    change Held d d.pwrwarnAssert
    unfold Device.pwrwarnAssert
    split
    · exact h
    · dsimp only
      rw [if_neg (by simp [hprst]), if_pos (.inl hpart)]
      exact h.lines true
  | pwrwarnRelease => exact h.lines false
  | hrstAssert p => exact SafeInv.hrstAssert safe p
  | hrstRelease p => exact SafeInv.hrstRelease safe p
  | requestTaken p r => exact SafeInv.requestTaken safe p r
  | responseTaken p => exact SafeInv.takeResponse safe p
  | readBegin p => exact SafeInv.beginRead safe p
  | readHazardClear p line => simpa [effect, SafeInv.clearHazard safe] using h
  | writeBegin p => exact SafeInv.beginWrite safe p
  | openMark p => exact SafeInv.runMark safe p _ _
  | closeMark p => exact SafeInv.runMark safe p _ _
  | abandonMark p => exact SafeInv.runMark safe p _ _
  | markKindNone p => exact SafeInv.runMark safe p _ _
  | accessGrant => simpa [effect, SafeInv.grant safe] using h
  | arrayAnswer number ok data =>
    change Held d (d.arrayAnswer number ok data)
    unfold Device.arrayAnswer
    split
    · exact h.count _
    · rename_i outstanding
      rw [hout] at outstanding
      cases outstanding
  | arrayResponseTimeout => simpa [effect, Device.arrayTimeout, hout] using h
  | takeAppendItem => simpa [effect, Device.takeItem, hqueue] using h
  | heldItemRetake => simpa [effect, Device.retakeItem, hqueue] using h
  | scopeAgeExpiry p => simpa [effect, Device.ageExpiry, hpart] using h
  | forcedAbandonWaitEnd p => exact SafeInv.abandonWaitEnd safe p
  | rollbackJobTake =>
    change Held d d.takeJob
    unfold Device.takeJob
    split
    · exact h
    · simpa [hpart] using h
  | anchorUpdateBegin => simpa [effect, Device.beginUpdate, hpart] using h
  | safeEntry => simpa [effect, Device.safeEntry, hpart] using h
  | formatCopyWrite => simpa [effect, Device.formatCopy, hformat] using h
  | frameWhileWorking n => exact (h.link _).ite h
  | frameCutShort f =>
    change Held d (d.frameCutShort f)
    unfold Device.frameCutShort Device.onFrame
    split
    · exact (h.link _).ite ((h.link _).count _)
    · exact h
  | fetchReply f => exact SafeInv.fetchReply safe f
  | badCheck f => exact h.command fun _ _ ht => ht.countBadFrame.reply _ _
  | unknown code f => exact h.command fun _ _ ht => ht.reply _ _
  | getState f => exact h.command fun _ _ ht => ht.bare fun ht => ht.reply _ _
  | getJournal f => exact h.command fun _ _ ht => ht.bare fun ht => ht.reply _ _
  | getAlerts f => exact h.command fun _ _ ht => ht.bare fun ht => ht.reply _ _
  | getScope f => exact h.command fun _ _ ht => ht.oneByte fun ht a => by unfold Device.getScope; split <;> exact ht.reply _ _
  | getClaims f => exact h.command fun _ _ ht => ht.oneByte fun ht _ => ht.reply _ _
  | getRegion f =>
    exact h.command fun _ _ ht => ht.oneByte fun ht a => by unfold Device.getRegion; split <;> exact ht.reply _ _
  | getCounters f =>
    exact h.command fun _ _ ht => ht.oneByte fun ht a => by unfold Device.getCounters; split <;> exact ht.reply _ _
  | ackAlerts f => exact h.refused (run := fun d => d.maskParam f Device.ackAlerts) formatted
  | setAlertMask f => exact h.refused (run := fun d => d.maskParam f Device.setAlertMask) formatted
  | clearCounters f => exact h.refused (run := fun d => d.bare f Device.clearCounters) formatted
  | formatJournal f => exact h.refused (run := fun d => d.formatParam f) formatted
  | setRegion f => exact h.refused (run := fun d => d.setRegionParam f) running
  | setDefaultMode f => exact h.refused (run := fun d => d.oneByte f Device.setDefaultMode) running
  | setTimer f => exact h.refused (run := fun d => d.setTimerParam f) running
  | setArrayTimeout f => exact h.refused (run := fun d => d.setTimeoutParam f) running
  | syncAnchor f => exact h.refused (run := fun d => d.bare f Device.requestUpdate) running
  | forceAbandon f => exact h.refused (run := fun d => d.oneByte f Device.forceParam) running
  | resetPart f => exact h.refused (run := fun d => d.bare f Device.resetPart) (by simp [admitReset, hpart])

end

/-- Settles O49: each command's effect in SAFE, and no ageing there. -/
theorem safeHoldsItsState : Obligations.SafeHoldsItsState := by
  intro s safe power prst
  rw [nexts_step]
  have held : Held s.dev (match s.pending with
      | [] => (⟨[], s.dev.tick⟩ : State)
      | c :: rest => ⟨rest, effect c s.dev⟩).dev := by
    split
    · simpa [Device.tick, safe.1] using Held.refl s.dev
    · rename_i c rest hq
      refine SafeInv.effect_held safe c ?_ ?_
      · rintro rfl; exact power (by simp [hq])
      · rintro rfl; exact prst (by simp [hq])
  exact ⟨held.safeInv safe, held.stack, held.claims, held.journal, held.anchor, held.regions, held.rollback,
    held.recovery, held.array⟩

end Sys2Proof.Machine

/-!
The reset state, the control lines that stop nothing in hand, and taking requests and responses (O8, O9, O11 to O13).
-/
namespace Sys2Proof.Machine

-- One proof at a time: each would otherwise hold a thread of its own.
set_option Elab.async false

/-! ## The state after reset -/

theorem State.reset_dev : State.reset.dev = startedUp (coldAfter State.reset.dev) := rfl

/-- With every queue empty and no entry in use the invariants say nothing. -/
theorem hostWritesClear_reset : HostWritesClear State.reset.dev := by
  refine ⟨fun p a ha => ?_, fun o p ho => ?_, fun p e he => ?_, fun i hi => ?_, fun a ha => ?_⟩
  · cases p <;> cases ha
  · cases ho
  · cases p <;> cases he
  · cases hi
  · cases ha

theorem claimInv_cleared : ClaimInv ClaimTable.cleared := fun _ _ x y hx => by simp [ClaimTable.cleared] at hx

/-- Settles O8: both sides are the cleared part with the read of line 0 asked for. -/
theorem resetStateIsThatOfPowerOn : Obligations.ResetStateIsThatOfPowerOn :=
  ⟨congrArg (State.mk []) State.reset_dev, rfl, rfl, rfl, (portInv_iff _).2 (.empty false), (portInv_iff _).2 (.empty false),
    claimInv_cleared, hostWritesClear_reset⟩

/-! ## Entering STOPPING -/

/-- Halting a queue again changes nothing. -/
theorem haltedQueue_idem (h : HostPort) : haltedQueue (haltedQueue h) = haltedQueue h := by
  have none (q : List Entry) : (q.map fun e => if e.stage = .waiting then { e with stage := .finished } else e).filterMap
      (fun e => if e.stage = .waiting then some (⟨e.req.tag, .halted, 0#512, false⟩ : Response) else none) = [] := by
    rw [List.filterMap_eq_nil_iff]
    intro e he
    obtain ⟨x, -, rfl⟩ := List.mem_map.1 he
    by_cases hx : x.stage = .waiting <;> simp [hx]
  have same (q : List Entry) : (q.map fun e => if e.stage = .waiting then { e with stage := .finished } else e).map
      (fun e => if e.stage = .waiting then { e with stage := .finished } else e) =
      q.map fun e => if e.stage = .waiting then { e with stage := .finished } else e := by
    rw [List.map_map]
    refine List.map_congr_left fun e _ => ?_
    by_cases he : e.stage = .waiting <;> simp [he]
  simp only [haltedQueue, none, same, List.append_nil]

/-- Whichever of its works a port's halt comes before (log entry 7), its queue is halted once nothing else answers. -/
theorem Device.haltQueues_either (d : Device) (first0 first1 : Bool) :
    Device.haltQueues
      (let d := if first0 then d.onHost .p0 HostPort.haltQueue else d
        if first1 then d.onHost .p1 HostPort.haltQueue else d) =
      { d with host := ⟨haltedQueue d.host.p0, haltedQueue d.host.p1⟩ } := by
  have idem := haltedQueue_idem
  cases first0 <;> cases first1 <;> simp [Device.haltQueues, Device.onHost, HostPort.haltQueue_eq, idem]

/-- The journal writer has nothing to drop on entering STOPPING. -/
theorem Device.stopWriter_eq_self {d : Device} (engines : ∀ i ∈ d.journal.queue, i.source = .write ∨ i.source = .marker)
    (unheld : ¬(d.journal.held = some .request ∧ d.anchor.writerReq = .pending))
    (empty : d.journal.queue = [] → d.journal.held = none) : d.stopWriter = d := by
  have kept : ∀ i ∈ d.journal.queue, droppedAtStop i = false := fun i hi => by
    rcases engines i hi with h | h <;> simp [droppedAtStop, h]
  have held : d.refuseHeld = d := by
    unfold Device.refuseHeld
    split
    · rfl
    · exact if_neg fun h => unheld ⟨h.1, h.2.1⟩
  have dropped : d.journal.queue.filter droppedAtStop = [] := by simpa [List.filter_eq_nil_iff] using kept
  have stays : d.journal.queue.filter (fun i => !droppedAtStop i) = d.journal.queue := by
    simpa [List.filter_eq_self] using kept
  unfold Device.stopWriter
  rw [held]
  unfold Device.dropItems
  simp only [dropped, stays, List.foldl_nil]
  split
  · rename_i hq
    rw [← empty hq]
  · rename_i i behind hq
    rw [kept i (by simp [hq])]
    rfl

theorem Device.stopJobs_eq_self {d : Device} (h : ∀ j ∈ d.rollback.jobs, j.phase ≠ .waiting) : d.stopJobs = d := by
  have none : d.rollback.jobs.filter (fun j => j.phase == .waiting) = [] := by simpa [List.filter_eq_nil_iff] using h
  rw [Device.stopJobs, none, List.foldl_nil]

/-- With nothing to drop, entering STOPPING stops the timers and halts the queues. -/
theorem Device.enterStopping_eq {d : Device} (jobs : ∀ j ∈ d.rollback.jobs, j.phase ≠ .waiting)
    (engines : ∀ i ∈ d.journal.queue, i.source = .write ∨ i.source = .marker)
    (unheld : ¬(d.journal.held = some .request ∧ d.anchor.writerReq = .pending))
    (empty : d.journal.queue = [] → d.journal.held = none) : d.enterStopping = { d with
      part := .stopping
      choice := d.choice + 2
      scope := ⟨{ d.scope.p0 with running := false }, { d.scope.p1 with running := false }⟩
      host := ⟨haltedQueue d.host.p0, haltedQueue d.host.p1⟩ } := by
  unfold Device.enterStopping
  generalize Config.haltQueueFirst _ = first0
  generalize Config.haltQueueFirst _ = first1
  dsimp only
  have nothing (t : Device) (journal : t.journal = d.journal) (anchor : t.anchor = d.anchor)
      (rollback : t.rollback = d.rollback) : t.stopWriter.stopJobs = t := by
    rw [Device.stopWriter_eq_self (by rwa [journal]) (by rwa [journal, anchor]) (by rwa [journal]),
      Device.stopJobs_eq_self (by rwa [rollback])]
  rw [nothing _ (by split <;> split <;> rfl) (by split <;> split <;> rfl) (by split <;> split <;> rfl),
    Device.haltQueues_either]
  rfl

/-- Settles O9, by what entering STOPPING does with nothing to drop. -/
theorem warningStopsThePart : Obligations.WarningStopsThePart := by
  intro q d
  refine ⟨fun prst pwrwarn safe stopping jobs engines unheld empty => ?_, fun still => ?_, rfl⟩
  · rw [exec_eq_iff]
    change d.pwrwarnAssert = _
    exact (if_neg (by simp [pwrwarn])).trans ((if_neg (by simp [prst])).trans ((if_neg (by simp [safe, stopping])).trans
      (Device.enterStopping_eq (d := { d with pwrwarn := true }) jobs engines unheld empty)))
  · rw [exec_eq_iff]
    change d.pwrwarnAssert = _
    unfold Device.pwrwarnAssert
    split
    · rename_i asserted; rw [← asserted]
    · dsimp only
      split
      · rfl
      · rename_i prst
        exact if_pos (still.resolve_left prst)

/-! ## The HRST lines -/

theorem Device.jobOf_eq_none_iff (d : Device) (p : Port) : d.jobOf p = none ↔ ∀ j ∈ d.rollback.jobs, j.port ≠ p := by
  simp [Device.jobOf]

/-- A port with no job at all has no job of a forced abandon. -/
theorem Device.forcedJob_eq_false {d : Device} {p : Port} (h : ∀ j ∈ d.rollback.jobs, j.port ≠ p) :
    d.forcedJob p = false := by
  simpa [Device.forcedJob] using fun j hj hp => absurd hp (h j hj)

theorem hrstAsserted_eq (h : HostPort) :
    h.hrstAsserted = ⟨true, (h.queue.filter isBegun).map fun e => { e with withheld := true }, []⟩ := by
  have begun : (h.queue.filter fun e => begunStage e.stage) = h.queue.filter isBegun :=
    congrArg (fun f => h.queue.filter f) (funext begunStage_eq_isBegun)
  rw [HostPort.hrstAsserted, begun]

theorem Device.noteReset_wedged {d : Device} {p : Port} (h : (d.scope.get p).state = .wedged) : d.noteReset p = d := by
  simp only [Device.noteReset, h]

theorem Device.noteReset_resetting {d : Device} {p : Port} (h : (d.scope.get p).state = .resetting) :
    d.noteReset p = d.onScope p fun s => { s with resetNoted := true } := by
  simp only [Device.noteReset, h]

/-- Where a scope may be open the abandon PORTRESET is asked for unless a job of the port is in hand (R14). -/
theorem Device.noteReset_scoped {d : Device} {p : Port}
    (h : (d.scope.get p).state = .active ∨ (d.scope.get p).state = .unwinding) :
    d.noteReset p =
      let t := d.onScope p fun s => { s with state := .resetting, resetNoted := true }
      if t.jobOf p = none then t.takeForced p .portReset else t := by
  rcases h with h | h <;> simp only [Device.noteReset, h]

/-- Settles O11, by the port's state at the assertion and the conditions of R14 at the release. -/
theorem hrstLinesAreFollowed : Obligations.HrstLinesAreFollowed := by
  intro q p d h s idle
  constructor
  · intro released host
    have drops : effect (.hrstAssert p) d = ({ d with host := host } : Device).noteReset p := by
      change (if (d.host.get p).hrst then d else (d.onHost p HostPort.hrstAsserted).noteReset p) = _
      rw [if_neg (by simp [released]), Device.onHost, hrstAsserted_eq]
    simp only [exec_eq_iff, drops]
    refine ⟨fun hs => Device.noteReset_wedged hs, fun hs => Device.noteReset_resetting hs, fun hs busy => ?_,
      fun hs running free => ?_⟩
    · refine (Device.noteReset_scoped (d := { d with host := host }) hs).trans ?_
      dsimp only
      split
      · rename_i job
        rw [Device.jobOf_eq_none_iff] at job
        refine if_neg ?_
        rintro ⟨hr, -, pending, -⟩
        exact busy ⟨hr, by simpa using pending, job⟩
      · rfl
    · refine (Device.noteReset_scoped (d := { d with host := host }) hs).trans ?_
      dsimp only
      refine (if_pos ((Device.jobOf_eq_none_iff _ _).2 free.2)).trans ((if_pos ?_).trans ?_)
      rotate_left
      · simp [Device.onScope, s]
      · exact ⟨running, by simp, by simpa using free.1, Device.forcedJob_eq_false free.2⟩
  · intro asserted host
    have follows : effect (.hrstRelease p) d = ({ d with host := host } : Device).settle p := by
      change (if (d.host.get p).hrst then _ else _) = _
      rw [if_pos asserted]
      rfl
    simp only [exec_eq_iff, follows]
    have settles : ((d.scope.get p).state = .resetting ∧ (host.get p).hrst = false ∧ (d.scope.get p).pendingAbandon = none ∧
        ({ d with host := host } : Device).jobOf p = none) ↔ (s.state = .resetting ∧ idle) := by
      rw [Device.jobOf_eq_none_iff]
      simp [s, host, idle]
    refine ⟨fun hs free => if_pos (settles.2 ⟨hs, free⟩), fun busy => if_neg (mt settles.1 busy)⟩

/-! ## Requests and responses -/

/-- Settles O12, by the three tests in their order. -/
theorem requestIsTaken : Obligations.RequestIsTaken := by
  intro q p r d h out room
  simp only [exec_eq_iff]
  have taken : effect (.requestTaken p r) d = withPort d p (h.take r) := rfl
  have hroom : room ↔ h.hrst = false ∧ h.canTake = true := by rw [HostPort.canTake_iff]
  have hout : out ↔ h.tagOutstanding r.tag = true := (HostPort.tagOutstanding_iff h r.tag).symm
  simp only [taken, hroom, hout, HostPort.take]
  refine ⟨?_, ?_, fun no => ?_⟩
  · rintro ⟨line, free⟩ fresh
    simp [line, free, fresh]
  · rintro ⟨line, free⟩ used
    simp [line, free, used]
  · by_cases line : h.hrst = true
    · simp [line, withPort, h]
    · have full : h.canTake = false := by simpa [line] using no
      simp [line, full, withPort, h]

/-- A code other than OK advances its refusal counter (R152). -/
theorem PortCounters.refuse_eq (c : PortCounters) (code : RespCode) : c.refuse code =
    let k := respValue code - 1
    if code = .ok then c else
      { c with refusals := c.refusals.setIfInBounds k (counted (c.refusals[k]?.getD 0#32)) } := by
  cases code <;> rfl

/-- Settles O13, by whether the response is a TAG refusal. -/
theorem responseIsTaken : Obligations.ResponseIsTaken := by
  intro q p d r rest path h c queue k
  rw [exec_eq_iff]
  have takes : effect (.responseTaken p) d = (d.onHost p HostPort.respond).countRefusal p r.code := by
    change d.takeResponse p = _
    unfold Device.takeResponse
    rw [path]
  have respond : h.respond = { h with queue := queue, path := rest } := by
    unfold HostPort.respond
    rw [path]
    cases refusal : r.refusal <;> simp [queue, refusal]
  rw [takes, Device.countRefusal, Device.countPort, Device.onHost, respond, PortCounters.refuse_eq]

end Sys2Proof.Machine

/-!
Which request begins, and what a READ, a WRITE or a marker does as it begins (O14 to O19, O22, O23).
-/
namespace Sys2Proof.Machine

-- One proof at a time: each would otherwise hold a thread of its own.
set_option Elab.async false

/-! ## The request that begins (R150, Table 10-2) -/

/-- Settles O15: each place's test is R150's, and the search takes the first. -/
theorem theOldestEligibleBegins : Obligations.TheOldestEligibleBegins := by
  intro q i
  have not_eligible (j : Nat) : eligible q j = false ↔ ∀ x, ¬EligibleAt q j x := by
    rw [← Bool.not_eq_true, eligible_iff, not_exists]
  rw [oldestEligible_spec, eligible_iff]
  simp only [not_eligible]
  constructor
  · rintro ⟨⟨e, he⟩, earlier⟩
    exact ⟨e, he, fun j x hj => earlier j hj x⟩
  · rintro ⟨e, he, earlier⟩
    exact ⟨⟨e, he⟩, fun j hj x => earlier j x hj⟩

section
variable {d : Device} {p : Port} {i : Nat} {e : Entry}

theorem BeginsNext.at_place {q : List Entry} (h : BeginsNext q i e) : q[i]? = some e := h.1.1

theorem Starts.nextBegin (h : Starts d p i e) {wanted : Request → Bool} (hw : wanted e.req = true) :
    d.nextBegin p wanted = some (i, e, none) := by
  obtain ⟨hb, next, -⟩ := h
  rw [Device.nextBegin_eq hb ((theOldestEligibleBegins _ _).2 ⟨e, next⟩) next.at_place, hw, if_pos rfl]

theorem Starts.at_place (h : Starts d p i e) : (d.host.get p).queue[i]? = some e := h.2.1.at_place

/-- The first place of a queue that meets a test. -/
theorem findIdx?_eq_some_of {q : List Entry} {test : Entry → Bool} (he : q[i]? = some e) (met : test e = true)
    (earlier : ∀ j x, j < i → q[j]? = some x → test x = false) : q.findIdx? test = some i := by
  obtain ⟨hi, rfl⟩ := List.getElem?_eq_some_iff.1 he
  refine List.findIdx?_eq_some_iff_getElem.2 ⟨hi, met, fun j hj => ?_⟩
  have hjl : j < q.length := lt_trans hj hi
  simp [earlier j q[j] hj (List.getElem?_eq_getElem hjl)]

/-- The begun READ or WRITE of a line, found by its place. -/
theorem HostPort.lineIndex_eq {h : HostPort} (he : h.queue[i]? = some e) (begun : isBegun e = true)
    (kind : reqKind e.req ≠ .mark)
    (earlier : ∀ j x, j < i → h.queue[j]? = some x → isBegun x = true → reqKind x.req ≠ .mark →
      reqLine x.req ≠ reqLine e.req) : h.lineIndex (reqLine e.req) = some i := by
  refine findIdx?_eq_some_of he ?_ fun j x hj hx => ?_
  · simp [begunStage_eq_isBegun, begun, kind]
  · rw [begunStage_eq_isBegun]
    by_contra met
    simp only [Bool.not_eq_false, Bool.and_eq_true, bne_iff_ne, beq_iff_eq] at met
    exact earlier j x hj hx met.1.1 met.1.2 met.2

/-- Table 10-2's row HALTED. -/
theorem Device.beginRow_halted (released : (d.host.get p).hrst = false)
    (h : d.part = .cold ∨ d.part = .recovering ∨ d.part = .stopping ∨ d.part = .safe ∨
      (d.scope.get p).state = .resetting) : d.beginRow p = .halted := by
  unfold Device.beginRow
  rcases h with h | h | h | h | h <;> simp [released, h]

/-- Table 10-2's row WEDGED. -/
theorem Device.beginRow_wedged (released : (d.host.get p).hrst = false)
    (part : d.part = .running ∨ d.part = .unformatted ∨ d.part = .failed) (state : (d.scope.get p).state = .wedged)
    (pending : (d.scope.get p).pendingAbandon = none) (format : d.anchor.format = none) : d.beginRow p = .wedged := by
  unfold Device.beginRow
  rcases part with part | part | part <;> simp [released, part, state, pending, format]

/-- A HALTED row answers the oldest unbegun request. -/
theorem Device.nextBegin_halted (row : d.beginRow p = .halted) (he : (d.host.get p).queue[i]? = some e)
    (waits : e.stage = .waiting) (first : ∀ j x, j < i → (d.host.get p).queue[j]? = some x → x.stage ≠ .waiting)
    {wanted : Request → Bool} (hw : wanted e.req = true) : d.nextBegin p wanted = some (i, e, some .halted) := by
  have place : (d.host.get p).queue.findIdx? (fun e => e.stage == .waiting) = some i :=
    findIdx?_eq_some_of he (by simp [waits]) fun j x hj hx => by simpa using first j x hj hx
  simp [Device.nextBegin, row, place, he, hw]

/-- A WEDGED row answers the oldest unbegun WRITE or MARK. -/
theorem Device.nextBegin_wedged (row : d.beginRow p = .wedged) (he : (d.host.get p).queue[i]? = some e)
    (waits : e.stage = .waiting) (kind : reqKind e.req ≠ .read)
    (first : ∀ j x, j < i → (d.host.get p).queue[j]? = some x → x.stage = .waiting → reqKind x.req = .read)
    {wanted : Request → Bool} (hw : wanted e.req = true) : d.nextBegin p wanted = some (i, e, some .wedged) := by
  have place : (d.host.get p).queue.findIdx? (fun e => e.stage == .waiting && reqKind e.req != .read) = some i :=
    findIdx?_eq_some_of he (by simp [waits, kind]) fun j x hj hx => by simpa using first j x hj hx
  simp [Device.nextBegin, row, place, he, hw]

/-- A WEDGED row with no unbegun WRITE or MARK begins READs under R150. -/
theorem Device.nextBegin_wedgedRead (row : d.beginRow p = .wedged) (next : BeginsNext (d.host.get p).queue i e)
    (kind : reqKind e.req = .read) (reads : ∀ x ∈ (d.host.get p).queue, x.stage = .waiting → reqKind x.req = .read) :
    d.nextBegin p (fun r => reqKind r == .read) = some (i, e, none) := by
  have none : (d.host.get p).queue.findIdx? (fun e => e.stage == .waiting && reqKind e.req != .read) = none := by
    rw [List.findIdx?_eq_none_iff]
    intro x hx
    simpa using reads x hx
  have oldest : oldestEligibleRead (d.host.get p).queue = some i := by
    obtain ⟨ok, earlier⟩ := (oldestEligible_spec _ i).1 ((theOldestEligibleBegins _ i).2 ⟨e, next⟩)
    unfold oldestEligibleRead
    rw [List.find?_range_eq_some]
    refine ⟨by simp [ok, next.at_place, kind], ?_, fun j hj => by simp [earlier j hj]⟩
    exact List.mem_range.2 (List.getElem?_eq_some_iff.1 next.at_place).1
  simp [Device.nextBegin, row, none, oldest, next.at_place, kind]

/-! ## A marker as it begins -/

theorem Device.nextMark_eq {kind : MarkKind} {code : Option RespCode}
    (h : d.nextBegin p (fun r => reqKind r == .mark && markKind r == kind) = some (i, e, code)) :
    d.nextMark p kind = some (i, e.req, code.or (d.markerCheck p e.req)) := by
  unfold Device.nextMark
  rw [h]
  cases code <;> rfl

theorem Device.runMark_answered {kind : MarkKind} {r : Request} {code : RespCode}
    (h : d.nextMark p kind = some (i, r, some code)) (carry : Nat → Request → Device) :
    d.runMark p kind carry = d.answerAt p i code := by
  unfold Device.runMark
  rw [h]

theorem Device.runMark_carried {kind : MarkKind} {r : Request} (h : d.nextMark p kind = some (i, r, none))
    (carry : Nat → Request → Device) : d.runMark p kind carry = carry i r := by
  unfold Device.runMark
  rw [h]

/-- The command that begins a MARK runs the marker of its kind. -/
theorem effect_beginCommand_mark (kind : reqKind e.req = .mark) :
    ∃ carry, effect (beginCommand p e.req) d = d.runMark p (markKind e.req) carry := by
  cases hm : markKind e.req <;> simp only [beginCommand, kind, hm, effect] <;> exact ⟨_, rfl⟩

/-- A request that is answered as it begins, whichever command begins it. -/
theorem effect_beginCommand_answered {code : RespCode}
    (h : ∀ wanted : Request → Bool, wanted e.req = true → d.nextBegin p wanted = some (i, e, some code)) :
    effect (beginCommand p e.req) d = d.answerAt p i code := by
  cases hk : reqKind e.req with
  | read =>
    simp only [beginCommand, hk, effect, Device.beginRead]
    rw [h _ (by simp [hk])]
  | write =>
    simp only [beginCommand, hk, effect, Device.beginWrite]
    rw [h _ (by simp [hk])]
  | mark =>
    obtain ⟨carry, run⟩ := effect_beginCommand_mark (d := d) (p := p) hk
    rw [run]
    exact Device.runMark_answered (Device.nextMark_eq (h _ (by simp [hk]))) carry

end

/-- Settles O14: the rows HALTED and WEDGED of Table 10-2 each answer the first request they name. -/
theorem haltedAndWedgedAnswers : Obligations.HaltedAndWedgedAnswers := by
  intro q p d i e h s released he waits _
  simp only [exec_eq_iff, h, ← Device.answerAt_eq he]
  refine ⟨fun halted first => ?_, fun part wedged pending format kind first => ?_⟩
  · exact effect_beginCommand_answered fun _ hw =>
      Device.nextBegin_halted (Device.beginRow_halted released halted) he waits first hw
  · exact effect_beginCommand_answered fun _ hw =>
      Device.nextBegin_wedged (Device.beginRow_wedged released part wedged pending format) he waits kind first hw

/-! ## READs -/

theorem splitsLine_iff (r : Request) : splitsLine r = true ↔ 16 < r.startWord.toNat + (r.countField.toNat + 1) := by
  exact decide_eq_true_iff

/-- Settles O16: the checks of a READ one after the other, and the step that looks at a hazard again. -/
theorem readBegins : Obligations.ReadBegins := by
  intro q p d i e h line split wedgedRead asks kind
  simp only [exec_eq_iff]
  refine ⟨fun starts => ?_, fun he stage earlier => ?_⟩
  · have he : (d.host.get p).queue[i]? = some e := by
      rcases starts with starts | ⟨-, -, -, -, -, next, -⟩
      · exact starts.at_place
      · exact next.at_place
    have next : d.nextBegin p (fun r => reqKind r == .read) = some (i, e, none) := by
      rcases starts with starts | ⟨released, part, wedged, pending, format, next, -, reads⟩
      · exact starts.nextBegin (by simp [kind])
      · exact Device.nextBegin_wedgedRead (Device.beginRow_wedged released part wedged pending format) next kind reads
    have runs : effect (.readBegin p) d =
        if splitsLine e.req then d.answerAt p i .split
        else if d.outOfRange line then d.answerAt p i .range
        else if d.hazard line then d.beginAt p i .readHazard
        else (d.beginAt p i .readAccess).askHost p (.readLine line) := by
      change d.beginRead p = _
      unfold Device.beginRead
      rw [next]
    have whole (hs : ¬split) : ¬splitsLine e.req = true := mt (splitsLine_iff _).1 hs
    have inside (hr : ¬BeyondArray d line) : ¬d.outOfRange line = true := mt (d.outOfRange_iff line).1 hr
    simp only [runs, Device.answerAt_eq he, Device.beginAt_eq he]
    refine ⟨fun hs => if_pos ((splitsLine_iff _).2 hs), fun hs hr => ?_, fun hs hr hh => ?_, fun hs hr hh => ?_⟩
    · rw [if_neg (whole hs), if_pos ((d.outOfRange_iff line).2 hr)]
    · rw [if_neg (whole hs), if_neg (inside hr), if_pos ((d.hazard_iff line).2 hh)]
    · rw [if_neg (whole hs), if_neg (inside hr), if_neg (mt (d.hazard_iff line).1 hh)]
      rfl
  · have begun : isBegun e = true := isBegun_iff.2 (by simp [stage])
    have place : h.lineIndex line = some i := HostPort.lineIndex_eq he begun (by simp [kind]) fun j x hj hx hb hm same =>
      earlier j x hj hx hb hm (BitVec.eq_of_toNat_eq same)
    have runs : effect (.readHazardClear p e.req.line) d =
        if e.stage = .readHazard ∧ d.hazard line = false then (d.stageLine p line .readAccess).askHost p (.readLine line)
        else d := by
      change d.clearHazard p line = _
      unfold Device.clearHazard
      simp only [h] at place he
      simp only [place, he]
    have hazard : d.hazard line = false ↔ ¬Hazard d line := by rw [← Bool.not_eq_true, Device.hazard_iff]
    rw [runs, Device.stageLine_eq place he]
    exact ⟨fun hh => if_neg fun free => hazard.1 free.2 hh, fun hh => if_pos ⟨stage, hazard.2 hh⟩⟩

end Sys2Proof.Machine

/-!
WRITEs and markers as they begin (O17 to O19, O22, O23), and what one port's commands leave alone (O21).
-/
namespace Sys2Proof.Machine

-- One proof at a time: each would otherwise hold a thread of its own.
set_option Elab.async false

/-! ## WRITEs (Table 5-2) -/

section
variable {d : Device} {p : Port} {i : Nat} {e : Entry}

/-- The WRITE is refused by its own checks or by the claim table. -/
theorem Starts.write_refused (starts : Starts d p i e) (kind : reqKind e.req = .write) {code : RespCode}
    (refused : d.writeOutcome p e.req = .refused code ∨
      (d.writeOutcome p e.req = .claim ∧ d.claimRequest p (d.depth p) (reqLine e.req) = .refused code)) :
    effect (.writeBegin p) d = withPort d p (answered (d.host.get p) i e code 0#512) := by
  have next := starts.nextBegin (wanted := fun r => reqKind r == .write) (by simp [kind])
  rw [← Device.answerAt_eq starts.at_place]
  change d.beginWrite p = _
  rcases refused with outcome | ⟨outcome, request⟩
  · simp only [Device.beginWrite, next, outcome]
  · simp only [Device.beginWrite, next, outcome, request]

/-- The WRITE is forwarded by its own checks or by the claim table. -/
theorem Starts.write_forwarded (starts : Starts d p i e) (kind : reqKind e.req = .write)
    (forward : d.writeOutcome p e.req = .forward ∨
      (d.writeOutcome p e.req = .claim ∧ d.claimRequest p (d.depth p) (reqLine e.req) = .pass)) :
    effect (.writeBegin p) d = (d.beginAt p i .plain).askHost p (writeAccess e.req) := by
  have next := starts.nextBegin (wanted := fun r => reqKind r == .write) (by simp [kind])
  change d.beginWrite p = _
  rcases forward with outcome | ⟨outcome, request⟩
  · simp only [Device.beginWrite, next, outcome]
  · simp only [Device.beginWrite, next, outcome, request]

/-- The WRITE takes an image. -/
theorem Starts.write_journaled (starts : Starts d p i e) (kind : reqKind e.req = .write) {slot : Fin 256} {fresh : Bool}
    (outcome : d.writeOutcome p e.req = .claim)
    (request : d.claimRequest p (d.depth p) (reqLine e.req) = .image slot fresh) :
    effect (.writeBegin p) d =
      ((d.takeImage p (reqLine e.req) slot fresh).beginAt p i .preRead).askHost p (.readLine (reqLine e.req)) := by
  have next := starts.nextBegin (wanted := fun r => reqKind r == .write) (by simp [kind])
  change d.beginWrite p = _
  simp only [Device.beginWrite, next, outcome, request]

/-- A part that begins requests under R150 is in RUNNING, UNFORMATTED or FAILED. -/
theorem Starts.part_cases (starts : Starts d p i e) : d.part = .running ∨ d.part = .unformatted ∨ d.part = .failed :=
  starts.1.2.1

variable {r : Request}

theorem splitsLine_eq_false (h : ¬16 < r.startWord.toNat + (r.countField.toNat + 1)) : splitsLine r = false :=
  Bool.eq_false_iff.2 (mt (splitsLine_iff r).1 h)

theorem Device.outOfRange_eq_false {line : Nat} (h : ¬BeyondArray d line) : d.outOfRange line = false :=
  Bool.eq_false_iff.2 (mt (d.outOfRange_iff line).1 h)

theorem inAnchorArea_eq_false {line : Nat} (h : 4 ≤ line) : inAnchorArea line = false := decide_eq_false (Nat.not_lt.2 h)

/-- A line past orders 2 to 4 of Table 5-2: what the mode of its class then decides. -/
theorem Device.writeOutcome_classed {mode : Mode} {allow : Bool} (whole : splitsLine r = false)
    (inside : ¬BeyondArray d (reqLine r)) (clear : 4 ≤ reqLine r) (formatted : d.part ≠ .unformatted)
    (outside : ¬InJournal d (reqLine r)) (classify : d.regions.classify (reqLine r) = (mode, allow)) :
    d.writeOutcome p r =
      match mode with
      | .guard => .refused .guarded
      | .pass => .forward
      | .journal =>
        if d.part = .failed then .refused .journalFault
        else if d.depth p = 0 then
          if allow then (if d.claims.claimedByOther p (reqLine r) then .refused .claimed else .forward)
          else .refused .unscoped
        else .claim := by
  have range := Device.outOfRange_eq_false inside
  have anchor := inAnchorArea_eq_false clear
  have journal : d.journal.inArea (reqLine r) = false := Bool.eq_false_iff.2 (mt (Journal.inArea_iff d _).1 outside)
  unfold Device.writeOutcome
  simp only [whole, range, anchor, formatted, journal, classify, Bool.false_eq_true, if_false]
  cases mode <;> rfl

/-- A journaled line under an open scope goes to the claim table. -/
theorem Device.writeOutcome_claim {allow : Bool} (whole : splitsLine r = false) (running : d.part = .running)
    (inside : ¬BeyondArray d (reqLine r)) (clear : 4 ≤ reqLine r) (outside : ¬InJournal d (reqLine r))
    (classify : d.regions.classify (reqLine r) = (.journal, allow)) (depth : d.depth p ≠ 0) :
    d.writeOutcome p r = .claim := by
  rw [Device.writeOutcome_classed whole inside clear (by simp [running]) outside classify]
  simp [running, depth]

/-! ## The claim table's answer (R27) -/

/-- The answer for a line that has an entry. -/
theorem Device.claimRequest_claimed {depth line : Nat} {s : Fin 256} {c : Claim} (h : ClaimedAt d.claims line s c) :
    d.claimRequest p depth line =
      if c.port ≠ p then .refused .claimed
      else if (imageAt c.images depth).isSome then .pass
      else if d.journal.faulted then .refused .journalFault
      else .image s false := by
  unfold Device.claimRequest
  rw [(d.claims.slotOf_eq_some_iff line s).2 ⟨c, h⟩]
  simp only [h.1]

/-- The answer for a line that has none. -/
theorem Device.claimRequest_unclaimed {depth line : Nat} (h : Unclaimed d.claims line) :
    d.claimRequest p depth line =
      if d.journal.faulted then .refused .journalFault
      else d.claims.freeSlot.elim (.refused .claimsFull) fun i => .image i true := by
  simp only [Device.claimRequest, (d.claims.slotOf_eq_none_iff line).2 h]
  cases d.claims.freeSlot <;> rfl

end

/-- Settles O17: each clause is the first check of Table 5-2 that fails. -/
theorem writeIsRefused : Obligations.WriteIsRefused := by
  intro q p d i e h line depth split answer classed other own starts kind
  have refuse {code : RespCode} (refused : d.writeOutcome p e.req = .refused code) : answer code :=
    exec_eq_iff.2 (starts.write_refused kind (.inl refused))
  have range (hr : ¬BeyondArray d line) : d.outOfRange (reqLine e.req) = false := Device.outOfRange_eq_false hr
  refine ⟨fun hs => refuse ?_, fun hs hr => refuse ?_, fun hs hr hg => refuse ?_, fun hs hr formatted hj => refuse ?_,
    fun ⟨hs, hr, clear, formatted, hj⟩ mode allow classify => ?_⟩
  · unfold Device.writeOutcome
    exact if_pos ((splitsLine_iff _).2 hs)
  · unfold Device.writeOutcome
    simp only [splitsLine_eq_false hs, Bool.false_eq_true, if_false]
    exact if_pos ((d.outOfRange_iff line).2 hr)
  · have anchor : inAnchorArea line = true := decide_eq_true hg
    unfold Device.writeOutcome
    simp only [splitsLine_eq_false hs, range hr, Bool.false_eq_true, if_false]
    exact if_pos anchor
  · have journal : d.journal.inArea (reqLine e.req) = true := (Journal.inArea_iff d line).2 hj
    unfold Device.writeOutcome
    simp only [splitsLine_eq_false hs, range hr, formatted, journal, Bool.false_eq_true, if_false, if_true, ite_self]
  · have outcome := Device.writeOutcome_classed (p := p) (splitsLine_eq_false hs) hr clear formatted hj classify
    have claims (running : d.part = .running) (opened : depth ≠ 0) (journaled : mode = .journal) {code : RespCode}
        (refused : d.claimRequest p depth line = .refused code) : answer code := by
      subst journaled
      refine exec_eq_iff.2 (starts.write_refused kind (.inr ⟨?_, refused⟩))
      exact Device.writeOutcome_claim (splitsLine_eq_false hs) running hr clear hj classify opened
    refine ⟨?_, ?_, ?_, ?_, ?_, ?_, ?_, ?_⟩
    · rintro rfl
      exact refuse outcome
    · rintro rfl failed
      exact refuse (by simp [outcome, failed])
    · rintro rfl running unscoped refuses
      exact refuse (by simp [outcome, running, refuses, show d.depth p = 0 from unscoped])
    · rintro rfl running unscoped allows claimed
      have byOther := (d.claims.claimedByOther_iff p line).2 claimed
      exact refuse (by simp [outcome, running, allows, show d.depth p = 0 from unscoped, show d.claims.claimedByOther p (reqLine e.req) = true from byOther])
    · rintro journaled running opened ⟨s, c, hc, port⟩
      exact claims running opened journaled (by rw [Device.claimRequest_claimed hc, if_pos port])
    · rintro journaled running opened faulted ⟨s, c, hc, port, image⟩
      exact claims running opened journaled (by rw [Device.claimRequest_claimed hc]; simp [port, image, faulted])
    · intro journaled running opened faulted unclaimed
      exact claims running opened journaled (by rw [Device.claimRequest_unclaimed unclaimed]; simp [faulted])
    · intro journaled running opened normal unclaimed full
      refine claims running opened journaled ?_
      rw [Device.claimRequest_unclaimed unclaimed, d.claims.freeSlot_eq_none_iff.2 full]
      simp [normal]

/-- Settles O18: each case of R72, R69, R30 and R81 is an outcome that forwards. -/
theorem writeIsForwarded : Obligations.WriteIsForwarded := by
  intro q p d i e h r line depth access starts kind fits inside clear forwarded
  have whole : splitsLine r = false := splitsLine_eq_false (Nat.not_lt.2 fits)
  have forward : d.writeOutcome p r = .forward ∨
      (d.writeOutcome p r = .claim ∧ d.claimRequest p (d.depth p) line = .pass) := by
    by_cases unformatted : d.part = .unformatted
    · left
      have range : d.outOfRange (reqLine r) = false := Device.outOfRange_eq_false inside
      have anchor : inAnchorArea (reqLine r) = false := inAnchorArea_eq_false clear
      simp [Device.writeOutcome, whole, range, anchor, unformatted]
    · obtain ⟨outside, mode, allow, classify, cases⟩ := forwarded.resolve_left unformatted
      have outcome := Device.writeOutcome_classed (p := p) whole inside clear unformatted outside classify
      rcases cases with rfl | ⟨rfl, running, unscoped, rfl, ours⟩ | ⟨rfl, running, opened, s, c, hc, port, image⟩
      · exact .inl outcome
      · left
        have free := (d.claims.claimedByOther_eq_false_iff p line).2 ours
        simp [outcome, running, show d.depth p = 0 from unscoped, show d.claims.claimedByOther p (reqLine r) = false from free]
      · right
        refine ⟨Device.writeOutcome_claim whole running inside clear outside classify opened, ?_⟩
        rw [Device.claimRequest_claimed hc]
        simp [port, Option.isSome_iff_ne_none, show imageAt c.images (d.depth p) ≠ none from image]
  rw [exec_eq_iff, starts.write_forwarded kind forward, Device.beginAt_eq starts.at_place, writeAccess_eq]
  rfl

theorem Device.takeImage_scope (d : Device) (p : Port) (line : Nat) (slot : Fin 256) (fresh : Bool) :
    (d.takeImage p line slot fresh).scope = d.scope := by
  unfold Device.takeImage
  dsimp only
  split
  · split <;> rfl
  · rfl

/-- Settles O19, by whether the line has the port's own entry. -/
theorem writeTakesAnImage : Obligations.WriteTakesAnImage := by
  intro q p d i e slot allow h line depth next starts kind fits running normal inside clear outside classify opened
  have whole : splitsLine e.req = false := splitsLine_eq_false (Nat.not_lt.2 fits)
  have outcome : d.writeOutcome p e.req = .claim :=
    Device.writeOutcome_claim whole running inside clear outside classify opened
  have begins (fresh : Bool) : (d.takeImage p line slot fresh).beginAt p i .preRead =
      withPort (d.takeImage p line slot fresh) p (reached h i e .preRead depth) := by
    have place : ((d.takeImage p line slot fresh).host.get p).queue[i]? = some e := by
      rw [Device.takeImage_host]; exact starts.at_place
    rw [Device.beginAt_eq place, Device.takeImage_host, Device.takeImage_scope]
  refine ⟨fun c hc port image => ?_, fun unclaimed free lowest => ?_⟩
  · have request : d.claimRequest p (d.depth p) line = .image slot false := by
      rw [Device.claimRequest_claimed hc]
      simp [port, normal, show imageAt c.images (d.depth p) = none from image]
    rw [exec_eq_iff, starts.write_journaled kind outcome request, begins]
    simp only [Device.takeImage, Bool.false_eq_true, if_false, ClaimTable.update_eq hc.1]
    rfl
  · have request : d.claimRequest p (d.depth p) line = .image slot true := by
      rw [Device.claimRequest_unclaimed unclaimed, (d.claims.freeSlot_eq_some_iff slot).2 ⟨free, lowest⟩]
      simp [normal]
    intro claims
    rw [exec_eq_iff, starts.write_journaled kind outcome request, begins]
    have inUse : (d.claims.put slot (some ⟨line, p, true, noImages⟩)).inUse = claims.slots.toList.countP Option.isSome := rfl
    simp only [Device.takeImage, if_true, inUse, Config.claimHigh]
    split <;> rfl

/-! ## Markers -/

/-- The marker's own checks, past orders 2 and 3 of Table 1-3. -/
theorem Device.markerCheck_running {d : Device} {p : Port} {r : Request} (running : d.part = .running)
    (normal : d.journal.faulted = false) : d.markerCheck p r =
      match markKind r with
      | .openScope => if d.depth p = 4 then some .depth else if reqLevel r = d.depth p + 1 then none else some .level
      | .closeScope => if 1 ≤ reqLevel r ∧ reqLevel r ≤ 4 ∧ reqLevel r = d.depth p then none else some .level
      | .abandonScope => if 1 ≤ reqLevel r ∧ reqLevel r ≤ 4 ∧ reqLevel r = d.depth p then none else some .level
      | .none => some .level := by
  unfold Device.markerCheck
  simp only [running, normal, reduceCtorEq, or_self, if_false, Bool.false_eq_true]
  cases markKind r <;> rfl

/-- Settles O22: Table 1-3 from order 2 on, for the marker kind of the request. -/
theorem markersAreRefused : Obligations.MarkersAreRefused := by
  intro q p d i e h depth level answer runs starts kind
  have refuse {code : RespCode} (check : d.markerCheck p e.req = some code) : answer code := by
    obtain ⟨carry, run⟩ := effect_beginCommand_mark (d := d) (p := p) kind
    have next := Device.nextMark_eq (starts.nextBegin (wanted := fun r => reqKind r == .mark && markKind r == markKind e.req)
      (by simp [kind]))
    rw [check] at next
    refine exec_eq_iff.2 ?_
    rw [run, Device.runMark_answered next, Device.answerAt_eq starts.at_place]
  refine ⟨fun part => refuse ?_, fun running faulted => refuse ?_, fun hr hm deep => refuse ?_,
    fun hr hm shallow wrong => refuse ?_, fun hr hm wrong => refuse ?_, fun hr hm => refuse ?_⟩
  · unfold Device.markerCheck
    exact if_pos part
  · unfold Device.markerCheck
    simp [running, faulted]
  · rw [Device.markerCheck_running hr.1 hr.2, hm]
    exact if_pos deep
  · rw [Device.markerCheck_running hr.1 hr.2, hm]
    exact (if_neg shallow).trans (if_neg wrong)
  · have fails : ¬(1 ≤ level ∧ level ≤ 4 ∧ level = depth) := by omega
    rw [Device.markerCheck_running hr.1 hr.2]
    rcases hm with hm | hm <;> rw [hm] <;> exact if_neg fails
  · rw [Device.markerCheck_running hr.1 hr.2, hm]

/-- The serial of the innermost level is that of the top entry (R7). -/
theorem serialAt_top (top : ScopeEntry) (below : List ScopeEntry) : serialAt (top :: below) (below.length + 1) = top.serial := by
  simp [serialAt, scopeAt]

/-- Settles O23: each marker's own change, its request begun. -/
theorem markersAreCarriedOut : Obligations.MarkersAreCarriedOut := by
  intro q p d i e h s c level marked handing starts kind running normal
  have begins : d.beginAt p i .marker = marked := Device.beginAt_eq starts.at_place .marker
  have carried {k : MarkKind} (hk : markKind e.req = k) (check : d.markerCheck p e.req = none)
      (carry : Nat → Request → Device) : d.runMark p k carry = carry i e.req := by
    have next := Device.nextMark_eq (starts.nextBegin (wanted := fun r => reqKind r == .mark && markKind r == k)
      (by simp [kind, hk]))
    rw [check] at next
    exact Device.runMark_carried next carry
  have check := Device.markerCheck_running (p := p) (r := e.req) running normal
  simp only [exec_eq_iff]
  refine ⟨fun hm shallow deeper => ?_, fun top below stack deep => ?_⟩
  · rw [hm] at check
    refine (carried hm (check.trans ((if_neg ?_).trans (if_pos deeper))) _).trans ?_
    · exact shallow.ne
    · rw [begins]
      rfl
  have closes (one : 1 ≤ level) (four : level ≤ 4) : 1 ≤ reqLevel e.req ∧ reqLevel e.req ≤ 4 ∧ reqLevel e.req = d.depth p :=
    ⟨one, four, deep⟩
  have depth : level = below.length + 1 := by rw [deep, stack, List.length_cons]
  have serial : serialAt s.stack level = top.serial := by rw [depth, stack, serialAt_top]
  refine ⟨fun hm two four => ?_, fun hm one => ?_, fun hm four => ?_⟩
  · rw [hm] at check
    refine (carried hm (check.trans (if_pos (closes (by omega) four))) _).trans ?_
    have deeper : reqLevel e.req ≠ 1 := show level ≠ 1 by omega
    rw [begins, Device.closeScope]
    simp only [deeper, if_false]
    rw [show serialAt (marked.scope.get p).stack (reqLevel e.req) = _ from serial]
    rfl
  · rw [hm] at check
    refine (carried hm (check.trans (if_pos (closes (by omega) (by omega)))) _).trans ?_
    have first : reqLevel e.req = 1 := one
    rw [one] at serial
    rw [begins, Device.closeScope, first]
    simp only [if_true]
    have serial' : serialAt ((marked.onScope p fun s => { s with running := false }).scope.get p).stack 1 = top.serial := by
      simpa [marked, withPort] using serial
    rw [serial']
    rfl
  · rw [hm] at check
    refine (carried hm (check.trans (if_pos (closes (by omega) four))) _).trans ?_
    rw [begins]
    rfl

end Sys2Proof.Machine

/-!
What the commands of one port leave alone (O21), the arbiter (O24, O25), and the answers to host work (O26, O27).
-/
namespace Sys2Proof.Machine

-- One proof at a time: each would otherwise hold a thread of its own.
set_option Elab.async false

/-! ## The other port -/

/-- The other port's queue, path, scopes, counters and waiting accesses are as they were. -/
structure Spares (p : Port) (d t : Device) : Prop where
  host : t.host.get p.other = d.host.get p.other
  scope : t.scope.get p.other = d.scope.get p.other
  counters : t.counters.port.get p.other = d.counters.port.get p.other
  waiting : t.array.hostReq.get p.other = d.array.hostReq.get p.other

section
variable {p : Port} {d t : Device}

theorem Spares.refl (p : Port) (d : Device) : Spares p d d := ⟨rfl, rfl, rfl, rfl⟩

/-- A change of neither the ports, the scope unit, the counters nor the waiting accesses. -/
theorem Spares.frame (h : Spares p d t) {u : Device} (host : u.host = t.host := by rfl) (scope : u.scope = t.scope := by rfl)
    (counters : u.counters = t.counters := by rfl) (array : u.array = t.array := by rfl) : Spares p d u :=
  ⟨by rw [host, h.host], by rw [scope, h.scope], by rw [counters, h.counters], by rw [array, h.waiting]⟩

theorem Spares.onHost (h : Spares p d t) (f : HostPort → HostPort) : Spares p d (t.onHost p f) :=
  { h with host := (PerPort.get_set_other _ _ p).trans h.host }

theorem Spares.onScope (h : Spares p d t) (f : ScopePort → ScopePort) : Spares p d (t.onScope p f) :=
  { h with scope := (PerPort.get_set_other _ _ p).trans h.scope }

theorem Spares.countPort (h : Spares p d t) (f : PortCounters → PortCounters) : Spares p d (t.countPort p f) :=
  { h with counters := (PerPort.get_set_other _ _ p).trans h.counters }

theorem Spares.askHost (h : Spares p d t) (a : Access) : Spares p d (t.askHost p a) :=
  { h with waiting := (PerPort.get_set_other _ _ p).trans h.waiting }

theorem Spares.ite {u : Device} {c : Prop} [Decidable c] (h : Spares p d t) (g : Spares p d u) :
    Spares p d (if c then t else u) := by
  split
  · exact h
  · exact g

theorem Spares.answerAt (h : Spares p d t) (i : Nat) (code : RespCode) : Spares p d (t.answerAt p i code) := h.onHost _

theorem Spares.beginAt (h : Spares p d t) (i : Nat) (stage : Stage) : Spares p d (t.beginAt p i stage) := by
  unfold Device.beginAt
  exact h.onHost _

theorem Spares.takeForced (h : Spares p d t) (cause : AbandonCause) : Spares p d (t.takeForced p cause) :=
  (h.onScope _).ite h

theorem Spares.noteReset (h : Spares p d t) : Spares p d (t.noteReset p) := by
  have noted := h.onScope fun s => { s with state := .resetting, resetNoted := true }
  unfold Device.noteReset
  split
  · exact h
  · exact h.onScope _
  · exact (noted.takeForced _).ite noted
  · exact (noted.takeForced _).ite noted

theorem Spares.takeImage (h : Spares p d t) (line : Nat) (slot : Fin 256) (fresh : Bool) :
    Spares p d (t.takeImage p line slot fresh) := by
  unfold Device.takeImage
  dsimp only
  split
  · split
    · exact h.frame
    · exact h.frame
  · exact h.frame

theorem Spares.beginRead (p : Port) (d : Device) : Spares p d (d.beginRead p) := by
  have h := Spares.refl p d
  unfold Device.beginRead
  split
  · exact h
  · exact h.answerAt _ _
  · exact (h.answerAt _ _).ite ((h.answerAt _ _).ite ((h.beginAt _ _).ite ((h.beginAt _ _).askHost _)))

theorem Spares.clearHazard (p : Port) (d : Device) (line : Nat) : Spares p d (d.clearHazard p line) := by
  have h := Spares.refl p d
  unfold Device.clearHazard
  split
  · exact h
  · split
    · exact h
    · exact ((h.onHost _).askHost _).ite h

theorem Spares.beginWrite (p : Port) (d : Device) : Spares p d (d.beginWrite p) := by
  have h := Spares.refl p d
  unfold Device.beginWrite
  split
  · exact h
  · exact h.answerAt _ _
  · dsimp only
    split
    · exact h.answerAt _ _
    · exact (h.beginAt _ _).askHost _
    · split
      · exact h.answerAt _ _
      · exact (h.beginAt _ _).askHost _
      · exact ((h.takeImage _ _ _).beginAt _ _).askHost _

theorem Spares.runMark {kind : MarkKind} {carry : Nat → Request → Device} (h : ∀ i r, Spares p d (carry i r)) :
    Spares p d (d.runMark p kind carry) := by
  unfold Device.runMark
  split
  · exact .refl p d
  · exact (Spares.refl p d).answerAt _ _
  · exact h _ _

theorem Spares.closeScope (h : Spares p d t) (level : Nat) : Spares p d (t.closeScope p level) := by
  have stopped : Spares p d (if level = 1 then t.onScope p fun s => { s with running := false } else t) :=
    (h.onScope _).ite h
  exact stopped.frame

theorem Spares.abandonScope (h : Spares p d t) (level : Nat) : Spares p d (t.abandonScope p level) := by
  have unwinding := (h.onScope fun s =>
    { s with state := .unwinding, running := if level = 1 then false else s.running }).countPort
      fun c => { c with hostAbandons := bump c.hostAbandons }
  exact unwinding.frame

end

/-- Settles O21: every command of a port changes that port's blocks alone. -/
theorem otherPortIsUntouched : Obligations.OtherPortIsUntouched := by
  rintro ⟨q, d⟩ p c r line hc
  rw [nexts_exec]
  have h := Spares.refl p d
  suffices spares : Spares p d (effect c d) from ⟨spares.host, spares.scope, spares.counters, spares.waiting⟩
  simp only [List.mem_cons, List.not_mem_nil, or_false] at hc
  rcases hc with rfl | rfl | rfl | rfl | rfl | rfl | rfl | rfl | rfl | rfl | rfl
  · exact h.ite (h.onHost _).noteReset
  · exact (((h.onHost _).onScope _).ite (h.onHost _)).ite h
  · exact h.onHost fun h => h.take r
  · change Spares p d (d.takeResponse p)
    unfold Device.takeResponse
    split
    · exact h
    · exact (h.onHost _).countPort _
  · exact .beginRead p d
  · exact .clearHazard p d _
  · exact .beginWrite p d
  · exact .runMark fun i r => (h.beginAt i _).frame
  · exact .runMark fun i r => (h.beginAt i _).closeScope _
  · exact .runMark fun i r => (h.beginAt i _).abandonScope _
  · exact .runMark fun i r => h.answerAt i _

/-! ## The arbiter -/

/-- What a grant does with the request chosen. -/
theorem ArrayPort.grant_eq {a left : ArrayPort} {x : Access} {who : Requester} (free : a.outstanding = none)
    (chosen : a.choose = some (x, who, left)) :
    a.grant = { left with outstanding := some ⟨x, who, a.number + 1#4, a.timeout⟩, number := a.number + 1#4 } := by
  simp only [ArrayPort.grant, free, chosen]

/-- Settles O24, by the class of the request granted. -/
theorem theArbiterGrantsByClass : Obligations.TheArbiterGrantsByClass := by
  intro q p d x rest a grants engines
  have granted {left : ArrayPort} {who : Requester} (free : a.outstanding = none)
      (chosen : a.choose = some (x, who, left)) : grants left who :=
    exec_eq_iff.2 (congrArg (fun y => { d with array := y }) (ArrayPort.grant_eq free chosen))
  have idle (h : a.grant = a) : exec .accessGrant ⟨q, d⟩ = .next ⟨q, d⟩ :=
    exec_eq_iff.2 (congrArg (fun y => { d with array := y }) h)
  refine ⟨fun free => ⟨fun h => ?_, fun h1 h => ?_, fun h1 h2 h => ?_, fun h1 h2 h3 h => ?_, fun he hp turn => ?_,
    fun he hp ho => ?_⟩, fun busy => idle ?_⟩
  · exact granted free (by simp only [ArrayPort.choose, h])
  · exact granted free (by simp only [ArrayPort.choose, h1, h])
  · exact granted free (by simp only [ArrayPort.choose, h1, h2, h])
  · exact granted free (by simp only [ArrayPort.choose, h1, h2, h3, h])
  · obtain ⟨h1, h2, h3, h4⟩ := he
    have choice : a.hostChoice = some p := by
      cases p with
      | p0 =>
        change a.hostReq.p0 = _ at hp
        change a.hostReq.p1 = [] ∨ a.lastHost = .p1 at turn
        unfold ArrayPort.hostChoice
        rw [hp]
        rcases ho : a.hostReq.p1 with _ | ⟨y, l⟩
        · rfl
        · simp [turn.resolve_left (by simp [ho]), Port.other]
      | p1 =>
        change a.hostReq.p1 = _ at hp
        change a.hostReq.p0 = [] ∨ a.lastHost = .p0 at turn
        unfold ArrayPort.hostChoice
        rw [hp]
        rcases ho : a.hostReq.p0 with _ | ⟨y, l⟩
        · rfl
        · simp [turn.resolve_left (by simp [ho]), Port.other]
    exact granted free (by simp only [ArrayPort.choose, h1, h2, h3, h4, choice, hp])
  · obtain ⟨h1, h2, h3, h4⟩ := he
    have choice : a.hostChoice = none := by
      unfold ArrayPort.hostChoice
      cases p with
      | p0 => rw [show a.hostReq.p0 = [] from hp, show a.hostReq.p1 = [] from ho]
      | p1 => rw [show a.hostReq.p1 = [] from hp, show a.hostReq.p0 = [] from ho]
    exact idle (by simp only [ArrayPort.grant, free, ArrayPort.choose, h1, h2, h3, h4, choice])
  · obtain ⟨o, ho⟩ := Option.ne_none_iff_exists'.1 busy
    simp only [ArrayPort.grant, ho]

/-- Settles O25: no access outstanding has the answer's number. -/
theorem lateResponsesAreOnlyCounted : Obligations.LateResponsesAreOnlyCounted := by
  intro q d n ok data late
  rw [exec_eq_iff]
  change d.arrayAnswer n ok data = d.countLateResponse
  unfold Device.arrayAnswer
  split
  · rfl
  · exact if_neg (late _ ‹_›)

/-! ## Host work -/

/-- The words a READ is answered with: those it names, zeros elsewhere (R89). -/
theorem readWords_word (r : Request) (line : LineData) {w : Nat} (hw : w < 16) :
    (readWords r line).extractLsb' (32 * w) 32 =
      if r.startWord.toNat ≤ w ∧ w < r.startWord.toNat + (r.countField.toNat + 1) then line.extractLsb' (32 * w) 32
      else 0#32 := by
  have ones (k : Nat) : (BitVec.ofNat 512 (2 ^ (32 * reqCount r) - 1)).getLsbD k = (decide (k < 512) && decide (k < 32 * reqCount r)) := by
    rw [BitVec.getLsbD_ofNat, Nat.testBit_two_pow_sub_one]
  apply BitVec.eq_of_getLsbD_eq
  intro b hb
  unfold readWords
  simp only [BitVec.getLsbD_extractLsb', BitVec.getLsbD_and, BitVec.getLsbD_shiftLeft, ones, hb, decide_true, Bool.true_and]
  have count : reqCount r = r.countField.toNat + 1 := rfl
  split
  · have h1 : 32 * w + b < 512 := by omega
    have h2 : ¬32 * w + b < 32 * r.startWord.toNat := by omega
    have h3 : 32 * w + b - 32 * r.startWord.toNat < 32 * reqCount r := by omega
    have h4 : 32 * w + b - 32 * r.startWord.toNat < 512 := by omega
    simp [h1, h2, h3, h4, hb]
  · have h : 32 * w + b < 32 * r.startWord.toNat ∨ ¬32 * w + b - 32 * r.startWord.toNat < 32 * reqCount r := by omega
    rcases h with h | h <;> simp [h]

/-- The answer to host work goes to the port's begun request of the line. -/
theorem Device.deliver_host {d : Device} {o : Outstanding} {p : Port} (h : o.requester = .host p) (answer : Option LineData) :
    d.deliver o answer = d.hostAnswer p (accessLine o.access) answer := by
  unfold Device.deliver
  rw [h]

/-- Settles O26, by the stage of the request. -/
theorem hostWorkIsAnswered : Obligations.HostWorkIsAnswered := by
  intro q p d o data i e h ho who hi he
  rw [arrayAnswer_ok ho, Device.deliver_host who]
  have hi' : ((portFree d).host.get p).lineIndex (accessLine o.access) = some i := hi
  have he' : ((portFree d).host.get p).queue[i]? = some e := he
  have answers (code : RespCode) (words : LineData) :
      (portFree d).answerLine p (accessLine o.access) code words = portFree (withPort d p (answered h i e code words)) :=
    Device.answerLine_eq hi' he' code words
  refine ⟨fun stage => ⟨readWords e.req data, ?_, fun w hw => readWords_word e.req data hw⟩, fun stage => ?_,
    fun stage top below stack => ?_⟩
  · simp only [Device.hostAnswer, hi', he', stage, answers]
  · rcases stage with stage | stage <;> simp only [Device.hostAnswer, hi', he', stage, answers]
  · have item : (portFree d).imageItem p e data = ⟨.write, p, e.level, top.serial, .image (reqLine e.req) data⟩ := by
      simp only [Device.imageItem, portFree, stack]
    simp only [Device.hostAnswer, hi', he', stage, Device.stageLine_eq hi' he', item]
    rfl

/-- Settles O27, by the stage of the request, for ERROR and timeout alike. -/
theorem hostWorkFails : Obligations.HostWorkFails := by
  intro q p d o data i e h line failed outcome ho who hi he
  -- ERROR and timeout differ in the counters they leave.
  have fails (c : Counters) {claims : ClaimTable}
      (undone : e.stage = .preRead ∧ claims = d.claims.undo line ∨
        (e.stage = .readAccess ∨ e.stage = .plain ∨ e.stage = .target) ∧ claims = d.claims) :
      ({ portFree d with counters := c } : Device).deliver o none =
        { portFree (withPort d p (answered h i e .media 0#512)) with
          claims := claims, alerts := { d.alerts with latches := d.alerts.latches ||| 0x040#10 }, counters := c } := by
    rw [Device.deliver_host who]
    have media (claims : ClaimTable) := Device.hostMedia_eq (d := { portFree d with counters := c, claims := claims }) hi he
    have hi' : (({ portFree d with counters := c } : Device).host.get p).lineIndex (accessLine o.access) = some i := hi
    have he' : (({ portFree d with counters := c } : Device).host.get p).queue[i]? = some e := he
    rcases undone with ⟨stage, rfl⟩ | ⟨stage, rfl⟩
    · simp only [Device.hostAnswer, hi', he', stage]
      exact media _
    · rcases stage with stage | stage | stage <;> simp only [Device.hostAnswer, hi', he', stage] <;> exact media _
  have outcomes {claims : ClaimTable}
      (undone : e.stage = .preRead ∧ claims = d.claims.undo line ∨
        (e.stage = .readAccess ∨ e.stage = .plain ∨ e.stage = .target) ∧ claims = d.claims) : outcome claims := by
    have error := fails (portFree d).countArrayError.counters undone
    have timeout := fails (portFree d).countArrayTimeout.counters undone
    refine ⟨(arrayAnswer_error ho q data).trans ?_, (arrayResponseTimeout_some ho q).trans ?_⟩
    · exact congrArg (fun t => Host.Outcome.next (State.mk q t)) error
    · exact congrArg (fun t => Host.Outcome.next (State.mk q t)) timeout
  exact ⟨fun stage => outcomes (.inr ⟨stage, rfl⟩), fun stage s c hc =>
    outcomes (.inl ⟨stage, (ClaimTable.undo_eq hc).symm⟩)⟩

end Sys2Proof.Machine

/-!
Management frames: what each run of bytes is when the software deselects (O4, O5).
-/
namespace Sys2Proof.Machine

-- One proof at a time: each would otherwise hold a thread of its own.
set_option Elab.async false

/-! ## A whole frame -/

theorem Frame.wellFormed_iff (f : Frame) : f.wellFormed = true ↔ f.payload.length % 4 = 0 ∧ f.payload.length ≤ 60 := by
  simp [Frame.wellFormed]

theorem Frame.whole_iff (f : Frame) : f.whole = true ↔ f.wellFormed = true ∧ f.partByte = false := by
  simp [Frame.whole]

theorem lengthByte_getLsbD (exchange : BitVec 4) (bytes k : Nat) : (lengthByte exchange bytes).getLsbD k =
    if k < 4 then (BitVec.ofNat 4 (bytes / 4)).getLsbD k else exchange.getLsbD (k - 4) := BitVec.getLsbD_append

/-- The length byte gives back the exchange number … -/
theorem lengthByte_exchange (exchange : BitVec 4) (bytes : Nat) : (lengthByte exchange bytes).extractLsb' 4 4 = exchange := by
  apply BitVec.eq_of_getLsbD_eq
  intro i hi
  rw [BitVec.getLsbD_extractLsb', lengthByte_getLsbD]
  simp [hi]

/-- … and the number of payload bytes. -/
theorem lengthByte_length (exchange : BitVec 4) {bytes : Nat} (units : bytes % 4 = 0) (most : bytes ≤ 60) :
    4 * ((lengthByte exchange bytes).extractLsb' 0 4).toNat = bytes := by
  have low : (lengthByte exchange bytes).extractLsb' 0 4 = BitVec.ofNat 4 (bytes / 4) := by
    apply BitVec.eq_of_getLsbD_eq
    intro i hi
    rw [BitVec.getLsbD_extractLsb', lengthByte_getLsbD]
    simp [hi]
  rw [low, BitVec.toNat_ofNat, Nat.mod_eq_of_lt (by omega)]
  omega

/-- The head of a frame: code, length byte and payload (R161). -/
def frameHead (code : Byte) (f : Frame) : List Byte := code :: lengthByte f.exchange f.payload.length :: f.payload

theorem frameHead_length (code : Byte) (f : Frame) : (frameHead code f).length = 2 + f.payload.length := by
  simp [frameHead]; omega

theorem encodeFrame_eq (code : Byte) (f : Frame) :
    encodeFrame code f = frameHead code f ++ crc8 (frameHead code f) :: List.replicate f.extra 0#8 := rfl

/-- What a frame with a whole head and a check is (R163, R164, R165). -/
theorem decodeFrame_checked {f : Frame} (wf : f.wellFormed = true) (selected : Selection) (code check : Byte)
    (extra : List Byte) (partByte : Bool) :
    decodeFrame selected (frameHead code f ++ check :: extra) partByte =
      let good := check == crc8 (frameHead code f)
      let g : Frame := ⟨selected, f.exchange, f.payload, extra.length, partByte⟩
      if partByte && !(good && code == 0x0F#8) then
        some (.frameCutShort ⟨selected, 3 + f.payload.length + extra.length⟩)
      else if good then some (commandOf code g) else some (.badCheck g) := by
  obtain ⟨units, most⟩ := (Frame.wellFormed_iff f).1 wf
  have clocked : (frameHead code f ++ check :: extra).length = 3 + f.payload.length + extra.length := by
    rw [List.length_append, frameHead_length, List.length_cons]; omega
  rw [← clocked]
  simp only [frameHead, decodeFrame, List.cons_append, lengthByte_length f.exchange units most, List.drop_left,
    List.take_left, lengthByte_exchange]
  rfl

/-- A frame that ends before its check is cut short (R163). -/
theorem decodeFrame_cut {f : Frame} (wf : f.wellFormed = true) (selected : Selection) (code : Byte) {k : Nat} (begun : 0 < k)
    (short : k < 3 + f.payload.length) (partByte : Bool) :
    decodeFrame selected ((encodeFrame code f).take k) partByte = some (.frameCutShort ⟨selected, k⟩) := by
  obtain ⟨units, most⟩ := (Frame.wellFormed_iff f).1 wf
  have head : (encodeFrame code f).take k = (frameHead code f).take k := by
    rw [encodeFrame_eq, List.take_append_of_le_length (by rw [frameHead_length]; omega)]
  have clocked : ((frameHead code f).take k).length = k := by
    rw [List.length_take, frameHead_length]; omega
  rw [head]
  match k, begun with
  | 1, _ => rfl
  | k + 2, _ =>
    have none : (f.payload.take k).drop f.payload.length = [] := List.drop_eq_nil_of_le (List.length_take_le' _ _)
    have two : (frameHead code f).take (k + 2) = code :: lengthByte f.exchange f.payload.length :: f.payload.take k := rfl
    rw [two] at clocked ⊢
    simp only [decodeFrame, lengthByte_length f.exchange units most, none, clocked]

/-! ## Commands and their frames -/

/-- The code in a command's frame names that command. -/
theorem commandOf_frameOf {i : Instr} {code : Byte} {f : Frame} (wf : i.wellFormed = true)
    (h : frameOf i = some (code, f)) : commandOf code f = i := by
  cases i with
  | unknown c g => exact Laws.CodeNames.unknown c g code f wf h
  | _ => cases h <;> rfl

/-- A command's frame has a whole payload, and ends inside a byte only if it is a FETCH REPLY. -/
theorem frame_wellFormed {i : Instr} {code : Byte} {f : Frame} (wf : i.wellFormed = true)
    (h : frameOf i = some (code, f)) : f.wellFormed = true ∧ (f.partByte = false ∨ code = 0x0F#8) := by
  have whole (g : f.whole = true) : f.wellFormed = true ∧ (f.partByte = false ∨ code = 0x0F#8) :=
    ⟨((Frame.whole_iff f).1 g).1, .inl ((Frame.whole_iff f).1 g).2⟩
  cases i with
  | unknown c g =>
    cases h
    simp only [Instr.wellFormed, Bool.and_eq_true] at wf
    exact whole wf.1
  | fetchReply g =>
    cases h
    exact ⟨wf, .inr rfl⟩
  | _ => cases h <;> exact whole wf

theorem commandOf_unknown {code : Byte} (h : code ∉ commandCodes) (f : Frame) : commandOf code f = .unknown code f := by
  simp only [commandCodes, List.mem_cons, List.not_mem_nil, or_false, not_or] at h
  simp only [commandOf, h, if_false]

/-- Settles O4: the bytes of the frame give back its fields, and the code its command. -/
theorem managementFramesRoundTrip : Obligations.ManagementFramesRoundTrip := by
  intro i code f wf h
  obtain ⟨fwf, ends⟩ := frame_wellFormed wf h
  have kept : (f.partByte && !(true && code == 0x0F#8)) = false := by
    rcases ends with ends | ends <;> simp [ends]
  rw [encodeFrame_eq, decodeFrame_checked fwf]
  simp only [BEq.rfl, kept, Bool.false_eq_true, if_false, if_true, List.length_replicate]
  exact congrArg some (commandOf_frameOf wf h)

/-- Settles O5: each spoiled frame is a branch of the frame's reading. -/
theorem spoiledFramesAreTold : Obligations.SpoiledFramesAreTold := by
  intro code f wf head cut
  refine ⟨fun k partByte begun short => decodeFrame_cut wf _ _ begun short _, fun check extra wrong => ?_, fun other => ?_,
    fun unknown whole => ?_, rfl⟩
  · have bad : (check == crc8 (frameHead code f)) = false := beq_eq_false_iff_ne.2 wrong
    have read := decodeFrame_checked wf f.selected code check extra
    exact ⟨(read false).trans (by simp [bad]), (read true).trans (by simp [bad, cut])⟩
  · have notFetch : (code == 0x0F#8) = false := beq_eq_false_iff_ne.2 other
    refine (decodeFrame_checked wf f.selected code _ _ true).trans ?_
    simp [notFetch, cut]
  · refine (decodeFrame_checked wf f.selected code _ _ false).trans ?_
    have same : (⟨f.selected, f.exchange, f.payload, (List.replicate f.extra 0#8).length, false⟩ : Frame) = f := by
      rw [List.length_replicate, ← whole]
    simp only [Bool.false_and, Bool.false_eq_true, if_false]
    refine (if_pos (beq_self_eq_true _)).trans ?_
    rw [commandOf_unknown unknown, same]

end Sys2Proof.Machine

/-!
Management commands that are answered at once: read commands, alerts, counters (O50, O52 to O54), FETCH REPLY (O57) and the
frames that are discarded (O58).
-/
namespace Sys2Proof.Machine

-- One proof at a time: each would otherwise hold a thread of its own.
set_option Elab.async false

/-! ## A frame that is taken -/

section
variable {d : Device} {f : Frame} {admitted : PartState → Bool} {run : Device → Device}

variable {c : Instr}

theorem FrameTaken.runs (h : FrameTaken d f) (hc : effect c d = d.command f admitted run) (ok : admitted d.part = true) :
    effect c d = run (tookFrame d f d.link.slot) := by
  rw [hc, Device.command_eq h, if_pos ok]

theorem FrameTaken.refuses (h : FrameTaken d f) (hc : effect c d = d.command f admitted run)
    (no : admitted d.part = false) : effect c d = tookFrame d f (.ready .wrongState []) := by
  rw [hc, Device.command_eq h, no]
  rfl

/-- The reply to a taken command is in the slot. -/
theorem FrameTaken.reply (h : FrameTaken d f) (code : ReplyCode) (payload : List Byte) :
    (tookFrame d f d.link.slot).reply code payload = tookFrame d f (.ready code payload) := Device.tookFrame_reply h.1 ..

theorem admitFormatted_of (h : d.part = .running ∨ d.part = .unformatted ∨ d.part = .failed) :
    admitFormatted d.part = true := by
  rcases h with h | h | h <;> simp [admitFormatted, h]

theorem admitFormatted_not (h : d.part = .cold ∨ d.part = .recovering ∨ d.part = .stopping ∨ d.part = .safe) :
    admitFormatted d.part = false := by
  rcases h with h | h | h | h <;> simp [admitFormatted, h]

theorem FrameTaken.bare (h : FrameTaken d f) (hc : effect c d = d.command f admitted fun t => t.bare f run)
    (ok : admitted d.part = true) (empty : f.payload = []) : effect c d = run (tookFrame d f d.link.slot) :=
  (h.runs hc ok).trans (if_pos empty)

theorem FrameTaken.oneByte {run : Device → Byte → Device} {a : Byte} (h : FrameTaken d f)
    (hc : effect c d = d.command f admitted fun t => t.oneByte f run) (ok : admitted d.part = true)
    (byte : f.payload = byteParam a) : effect c d = run (tookFrame d f d.link.slot) a := by
  rw [h.runs hc ok, Device.oneByte, byte]
  rfl

theorem FrameTaken.maskParam {run : Device → BitVec 10 → Device} {hi lo : Byte} (h : FrameTaken d f)
    (hc : effect c d = d.command f admitted fun t => t.maskParam f run) (ok : admitted d.part = true)
    (mask : f.payload = [hi, lo, 0#8, 0#8]) :
    effect c d = run (tookFrame d f d.link.slot) ((num16 hi lo).setWidth 10) := by
  rw [h.runs hc ok, Device.maskParam, mask]
  rfl

end

/-! ## Read commands -/

theorem portOf_eq_none {a : Byte} (h : 1 < a.toNat) : portOf a = none := by
  have h0 : a ≠ 0#8 := fun e => by simp [e] at h
  have h1 : a ≠ 1#8 := fun e => by simp [e] at h
  simp [portOf, h0, h1]

/-- Settles O50: each read command answers with its payload, or BADPARAM where the port or region is out of range. -/
theorem readCommandsReply : Obligations.ReadCommandsReply := by
  intro q d f a replied taken
  have answer (code : ReplyCode) (payload : List Byte) := taken.reply code payload
  simp only [replied, exec_eq_iff]
  refine ⟨fun empty => ⟨?_, ?_⟩, fun byte => ⟨?_, ?_, ?_, fun out => ?_, fun h => ?_, fun out => ?_⟩⟩
  · exact (taken.bare (c := .getState f) rfl rfl empty).trans (answer _ _)
  · exact (taken.bare (c := .getJournal f) rfl rfl empty).trans (answer _ _)
  · exact (taken.oneByte (c := .getClaims f) rfl rfl byte).trans (answer _ _)
  · rintro rfl
    exact (taken.oneByte (c := .getScope f) rfl rfl byte).trans (answer _ _)
  · rintro rfl
    exact (taken.oneByte (c := .getScope f) rfl rfl byte).trans (answer _ _)
  · refine (taken.oneByte (c := .getScope f) rfl rfl byte).trans ?_
    simp only [Device.getScope, portOf_eq_none out, answer]
  · refine (taken.oneByte (c := .getRegion f) rfl rfl byte).trans ?_
    have entry : (tookFrame d f d.link.slot).regions.entries[a.toNat]? = some d.regions.entries[a.toNat] :=
      Vector.getElem?_eq_getElem h
    simp only [Device.getRegion, entry, answer]
    rfl
  · refine (taken.oneByte (c := .getRegion f) rfl rfl byte).trans ?_
    have entry : (tookFrame d f d.link.slot).regions.entries[a.toNat]? = none := Vector.getElem?_eq_none out
    simp only [Device.getRegion, entry, answer]

/-! ## Alerts -/

/-- The ten bits of the latches or the mask in two bytes (13_formats.md 13.4). -/
theorem maskBytes_eq (m : BitVec 10) : maskBytes m = [0#6 ++ m.extractLsb' 8 2, m.extractLsb' 0 8] := by
  have high : (m.setWidth 16).extractLsb' 8 8 = 0#6 ++ m.extractLsb' 8 2 := by
    apply BitVec.eq_of_getLsbD_eq
    intro i hi
    rw [BitVec.getLsbD_extractLsb', BitVec.getLsbD_setWidth, show (0#6 ++ m.extractLsb' 8 2).getLsbD i = _ from
      BitVec.getLsbD_append]
    by_cases low : i < 2
    · simp [low, hi]
      omega
    · have out : m.getLsbD (8 + i) = false := BitVec.getLsbD_of_ge _ _ (by omega)
      simp [low, out]
  have low : (m.setWidth 16).extractLsb' 0 8 = m.extractLsb' 0 8 := by
    apply BitVec.eq_of_getLsbD_eq
    intro i hi
    simp [hi]
    omega
  rw [maskBytes, bytes16, high, low]

/-- Settles O52: GET ALERTS answers in every state, ACK ALERTS where it is admitted. -/
theorem alertsAreReportedAndAcknowledged : Obligations.AlertsAreReportedAndAcknowledged := by
  intro q d f hi lo taken two named left
  have answer (code : ReplyCode) (payload : List Byte) := taken.reply code payload
  simp only [exec_eq_iff]
  refine ⟨fun empty => ?_, fun part mask => ?_, fun part => ?_⟩
  · have payload : (tookFrame d f d.link.slot).alertsPayload = two d.alerts.latches ++ two d.alerts.mask ++
        byteParam (if d.alertLine then 1#8 else 0#8) := by
      rw [Device.alertsPayload, maskBytes_eq, maskBytes_eq]
      rfl
    refine (taken.bare rfl rfl empty).trans ?_
    rw [payload, answer]
  · refine (taken.maskParam rfl (admitFormatted_of part) mask).trans ?_
    rw [Device.ackAlerts, maskBytes_eq]
    exact congrArg (fun t : Device => { t with alerts := { d.alerts with latches := left } })
      (answer .done (two left ++ [0#8, 0#8]))
  · exact taken.refuses (run := fun t => t.maskParam f Device.ackAlerts) rfl (admitFormatted_not part)

theorem latchBit_lt (l : Latch) : latchBit l < 10 := by
  cases l with
  | aged p => cases p <;> decide
  | wedged p => cases p <;> decide
  | _ => decide

/-- The bits of the latches after one is latched. -/
theorem Device.latch_getLsbD (d : Device) (l : Latch) (n : Nat) : (d.latch l).alerts.latches.getLsbD n =
    (d.alerts.latches.getLsbD n || decide (latchBit l = n)) := by
  have bit : (1#10 <<< latchBit l).getLsbD n = decide (latchBit l = n) := by
    rw [← BitVec.twoPow_eq, BitVec.getLsbD_twoPow]
    simp [latchBit_lt l]
  rw [← bit]
  exact BitVec.getLsbD_or

theorem Device.alertLine_iff (d : Device) :
    d.alertLine = true ↔ ∃ k, k < 10 ∧ d.alerts.latches.getLsbD k = true ∧ d.alerts.mask.getLsbD k = true := by
  rw [Device.alertLine, decide_eq_true_iff]
  constructor
  · intro h
    by_contra none
    refine h (BitVec.eq_of_getLsbD_eq fun k hk => ?_)
    simp only [not_exists, not_and, Bool.not_eq_true] at none
    cases latched : d.alerts.latches.getLsbD k
    · simp [latched]
    · simp [latched, none k hk latched]
  · rintro ⟨k, -, latched, masked⟩ h
    have := congrArg (fun x => x.getLsbD k) h
    simp [latched, masked] at this

/-- With no latch set the ALERT line is released. -/
theorem Device.alertLine_of_clear {d : Device} (h : d.alerts.latches = 0#10) : d.alertLine = false := by
  simp [Device.alertLine, h]

/-- Settles O53. -/
theorem alertMaskAndLine : Obligations.AlertMaskAndLine := by
  intro q d f hi lo n l
  simp only [nexts_exec, exec_eq_iff]
  refine ⟨⟨?_, fun released => ?_⟩, fun prst => ?_, fun taken stopping safe empty => ?_, fun taken part mask => ?_,
    ⟨?_, rfl, fun other => ?_⟩, d.alertLine_iff⟩
  · exact ((Moves.refl d.reset).startOrStop).mask
  · have clear : d.powerOn.alerts.latches = 0#10 := by
      change d.reset.startOrStop.alerts.latches = _
      unfold Device.startOrStop
      split
      · rfl
      · rw [if_neg (show ¬d.reset.pwrwarn = true by simp [Device.reset, released])]
        rfl
    exact ⟨clear, Device.alertLine_of_clear clear⟩
  · have asserts : effect .prstAssert d = ({ d with prst := true } : Device).reset := if_neg (by simp [prst])
    rw [asserts]
    exact ⟨rfl, rfl, Device.alertLine_of_clear rfl⟩
  · have admits : admitReset d.part = true := by simp [admitReset, stopping, safe]
    rw [taken.bare (c := .resetPart f) rfl admits empty]
    unfold Device.resetPart
    dsimp only
    split
    · exact ⟨rfl, rfl, Device.alertLine_of_clear rfl⟩
    · exact ⟨rfl, rfl, Device.alertLine_of_clear rfl⟩
  · refine (taken.maskParam rfl (admitFormatted_of part) mask).trans ?_
    exact congrArg (fun t : Device => { t with alerts := { d.alerts with mask := (hi ++ lo).setWidth 10 } })
      (taken.reply .done [])
  · rw [Device.latch_getLsbD]
    simp
  · rw [Device.latch_getLsbD]
    simp [other.symm]

/-! ## Counters -/

/-- The bytes of fifteen numbers in their order. -/
theorem flatMap_bytes32 (r : Vector (BitVec 32) 15) : r.toList.flatMap bytes32 =
    bytes32 r[0] ++ bytes32 r[1] ++ bytes32 r[2] ++ bytes32 r[3] ++ bytes32 r[4] ++ bytes32 r[5] ++ bytes32 r[6] ++
      bytes32 r[7] ++ bytes32 r[8] ++ bytes32 r[9] ++ bytes32 r[10] ++ bytes32 r[11] ++ bytes32 r[12] ++ bytes32 r[13] ++
      bytes32 r[14] := by
  obtain ⟨⟨l⟩, hl⟩ := r
  match l, hl with
  | [_, _, _, _, _, _, _, _, _, _, _, _, _, _, _], _ => rfl

/-- Settles O54, page by page. -/
theorem countersArePagedAndCleared : Obligations.CountersArePagedAndCleared := by
  intro q d f p page taken be c r replied
  have paged (byte : f.payload = byteParam page) {payload : List Byte} (h : d.countersPayload page.toNat = some payload) :
      replied .done payload := by
    refine exec_eq_iff.2 ((taken.oneByte rfl rfl byte).trans ?_)
    have h' : (tookFrame d f d.link.slot).countersPayload page.toNat = some payload := h
    simp only [Device.getCounters, h', taken.reply]
  simp only [exec_eq_iff]
  refine ⟨fun byte => ⟨fun even => paged byte ?_, fun odd => paged byte ?_, fun four => paged byte ?_, fun beyond => ?_⟩,
    fun part empty => ?_, fun part => ?_⟩
  · rw [even]
    cases p <;> rfl
  · rw [odd]
    cases p <;> exact congrArg some (flatMap_bytes32 _)
  · rw [four]
    rfl
  · refine exec_eq_iff.2 ((taken.oneByte rfl rfl byte).trans ?_)
    have none : (tookFrame d f d.link.slot).countersPayload page.toNat = none := by
      unfold Device.countersPayload
      split <;> first | omega | rfl
    simp only [Device.getCounters, none, taken.reply]
  · refine (taken.bare rfl (admitFormatted_of part) empty).trans ?_
    exact congrArg (fun t : Device => { t with counters := Counters.cleared }) (taken.reply .done [])
  · exact taken.refuses (run := fun t => t.bare f Device.clearCounters) rfl (admitFormatted_not part)

end Sys2Proof.Machine

/-!
FETCH REPLY and the frames that are discarded (O57, O58), and the commands that set something in hand (O55, O56).
-/
namespace Sys2Proof.Machine

-- One proof at a time: each would otherwise hold a thread of its own.
set_option Elab.async false

/-! ## FETCH REPLY -/

section
variable {d : Device} {f : Frame}

theorem Device.fetchReply_ready {code : ReplyCode} {payload : List Byte} (ends : FrameEnds d f.selected)
    (slot : d.link.slot = .ready code payload) (h : f.selected ≠ .checkedBeforeReply) :
    d.fetchReply f =
      d.serveReply (idleBytes d f.selected (3 + f.payload.length)) (replyBytes d.link.exchange code payload) f := by
  unfold Device.fetchReply
  rw [Device.onFrame_eq ends]
  simp only [slot, h, if_false]
  rfl

/-- A FETCH REPLY that serves nothing. -/
theorem Device.fetchReply_idle (ends : FrameEnds d f.selected)
    (slot : (∃ w, d.link.slot = .working w) ∨ f.selected = .checkedBeforeReply ∧ ∃ code payload,
      d.link.slot = .ready code payload) :
    d.fetchReply f = d.endFrame (idleBytes d f.selected (wholeFrame f)) := by
  unfold Device.fetchReply
  rw [Device.onFrame_eq ends]
  rcases slot with ⟨w, slot⟩ | ⟨late, code, payload, slot⟩
  · simp only [slot]
    rfl
  · simp only [slot, late, if_true]
    rfl

theorem Device.fetchReply_empty (ends : FrameEnds d f.selected) (slot : d.link.slot = .empty) :
    d.fetchReply f =
      let t := d.endFrame (idleBytes d f.selected (wholeFrame f))
      if f.partByte then t.countBadFrame else t := by
  unfold Device.fetchReply
  rw [Device.onFrame_eq ends]
  simp only [slot]
  rfl

end

/-- Settles O57, by the slot and by how much of the reply is clocked. -/
theorem fetchReplyServesTheReply : Obligations.FetchReplyServesTheReply := by
  intro q d f ends cut answers idle
  refine ⟨fun code payload slot => ?_, fun slot => exec_eq_iff.2 ?_, fun w slot => exec_eq_iff.2 ?_, fun wf => ?_⟩
  · intro head bytes lead
    refine ⟨fun current whole => exec_eq_iff.2 ?_, fun current part => exec_eq_iff.2 ?_, fun late => exec_eq_iff.2 ?_⟩
    · refine (Device.fetchReply_ready ends slot current).trans ?_
      have all : (bytes ++ List.replicate (f.extra - bytes.length) 0#8).take f.extra =
          bytes ++ List.replicate (f.extra - bytes.length) 0#8 :=
        List.take_of_length_le (by rw [List.length_append, List.length_replicate]; omega)
      change d.serveReply lead bytes f = _
      unfold Device.serveReply
      rw [all, if_pos whole, ← List.append_assoc]
      cases part : f.partByte <;> simp only [cut, part, if_true, if_false, Bool.false_eq_true] <;> rfl
    · refine (Device.fetchReply_ready ends slot current).trans ?_
      change d.serveReply lead bytes f = _
      unfold Device.serveReply
      rw [List.take_append_of_le_length part.le, if_neg (Nat.not_le.2 part)]
      rfl
    · exact Device.fetchReply_idle ends (.inr ⟨late, code, payload, slot⟩)
  · refine (Device.fetchReply_empty ends slot).trans ?_
    cases part : f.partByte <;> simp only [cut, part, if_true, if_false, Bool.false_eq_true] <;> rfl
  · exact Device.fetchReply_idle ends (.inl ⟨w, slot⟩)
  · rw [encodeFrame_eq, decodeFrame_checked wf]
    simp [commandOf]

/-! ## Frames that are discarded -/

section
variable {d : Device} {f : Frame} {admitted : PartState → Bool} {run : Device → Device}

/-- A frame that ends while the slot is WORKING is discarded unchecked (R163). -/
theorem Device.command_working {w : Work} (slot : d.link.slot = .working w) (ends : FrameEnds d f.selected) :
    d.command f admitted run = d.endFrame (idleBytes d f.selected (wholeFrame f)) := by
  have working : d.link.isWorking = true := by simp [LinkController.isWorking, slot]
  rw [Device.command, Device.onFrame_eq ends]
  exact if_pos working

/-- A frame that a reset has cut is not taken (R161). -/
theorem Device.command_cut (h : ¬FrameEnds d f.selected) : d.command f admitted run = d := Device.onFrame_eq_self h _

/-- The commands that carry a frame whose check has been clocked in: they take it, or are FETCH REPLY. -/
theorem effect_framed {c : Instr} (carried : (∃ k, frameOf c = some (k, f)) ∨ c = .badCheck f) (d : Device) :
    (∃ admitted run, effect c d = d.command f admitted run) ∨ effect c d = d.fetchReply f := by
  rcases carried with ⟨k, hk⟩ | rfl
  · cases c with
    | fetchReply g => cases hk; exact .inr rfl
    | _ => cases hk <;> simp only [effect] <;> exact .inl ⟨_, _, rfl⟩
  · simp only [effect]
    exact .inl ⟨_, _, rfl⟩

end

theorem not_frameEnds_of_reset {d : Device} {selected : Selection} (h : selected = .beforeReset) : ¬FrameEnds d selected := by
  simp [FrameEnds, h]

/-- Settles O58, by the state of the slot and the place of the selection. -/
theorem spoiledFramesAreAnswered : Obligations.SpoiledFramesAreAnswered := by
  intro q d f cut code n counters driven carried
  simp only [exec_eq_iff]
  refine ⟨fun w slot => ⟨?_, fun ends => ?_, fun c hc ends => ?_⟩, fun free ends => ?_, fun taken => ⟨?_, ?_⟩,
    fun c hc reset => ?_, fun reset => ?_⟩
  · have working : d.link.isWorking = true := by simp [LinkController.isWorking, slot]
    refine (if_pos working).trans ?_
    simp only [LinkController.stateByte, slot]
    rfl
  · have working : d.link.isWorking = true := by simp [LinkController.isWorking, slot]
    exact (Device.onFrame_eq ends _).trans (if_pos working)
  · rcases effect_framed hc d with ⟨admitted, run, heff⟩ | heff
    · exact heff.trans (Device.command_working slot ends)
    · exact heff.trans (Device.fetchReply_idle ends (.inl ⟨w, slot⟩))
  · refine (Device.onFrame_eq ends _).trans (if_neg ?_)
    exact Bool.eq_false_iff.1 (Device.isWorking_eq_false free)
  · refine (taken.runs (c := .badCheck f) (run := fun t => t.countBadFrame.reply .badCheck []) rfl rfl).trans ?_
    exact congrArg (fun t : Device => { t with counters := counters }) (taken.reply .badCheck [])
  · exact (taken.runs (c := .unknown code f) (run := fun t => t.reply .unknown []) rfl rfl).trans (taken.reply .unknown [])
  · have none := not_frameEnds_of_reset (d := d) reset
    rcases effect_framed hc d with ⟨admitted, run, heff⟩ | heff
    · exact heff.trans (Device.command_cut none)
    · exact heff.trans (Device.onFrame_eq_self none _)
  · exact Device.onFrame_eq_self (not_frameEnds_of_reset reset) _

/-! ## Forced abandons and expiries -/

theorem Device.forcedJob_eq_false_iff (d : Device) (p : Port) :
    d.forcedJob p = false ↔ ∀ j ∈ d.rollback.jobs, j.port = p → j.kind ≠ .all := by
  simp [Device.forcedJob]

theorem Device.takeForced_eq {d : Device} {p : Port} (running : d.part = .running) (state : (d.scope.get p).state ≠ .wedged)
    (pending : (d.scope.get p).pendingAbandon = none) (jobs : ∀ j ∈ d.rollback.jobs, j.port = p → j.kind ≠ .all)
    (cause : AbandonCause) :
    d.takeForced p cause = d.onScope p fun s => { s with pendingAbandon := some cause, running := false } :=
  if_pos ⟨running, state, pending, (d.forcedJob_eq_false_iff p).2 jobs⟩

/-- An expiry with action ALERT (R16). -/
theorem Device.takeExpiry_alert {d : Device} {p : Port} (action : (d.scope.get p).scopeAction = .alert) :
    d.takeExpiry p = (d.latch (.aged p)).onScope p fun s => { s with expired := true } := by
  have action' : ((d.latch (.aged p)).scope.get p).scopeAction = .alert := action
  simp only [Device.takeExpiry, action']

/-- An expiry with action ABANDON (R16). -/
theorem Device.takeExpiry_abandon {d : Device} {p : Port} (action : (d.scope.get p).scopeAction = .abandon) :
    d.takeExpiry p = (d.latch (.aged p)).takeForced p .timer := by
  have action' : ((d.latch (.aged p)).scope.get p).scopeAction = .abandon := action
  simp only [Device.takeExpiry, action']

theorem expiryDue_iff (s : ScopePort) : expiryDue s = true ↔
    s.running = true ∧ s.scopeLimit ≠ 0#16 ∧ s.scopeLimit.toNat ≤ s.age ∧ s.expired = false := by
  simp [expiryDue, and_assoc]

theorem latchBit_aged (p : Port) : (1#10 <<< latchBit (.aged p) : BitVec 10) =
    match p with
    | .p0 => 0x001#10
    | .p1 => 0x002#10 := by
  cases p <;> rfl

/-! ## Setup commands -/

section
variable {d : Device} {p : Port} {action : TimerAction} {limit : BitVec 16}

theorem Device.setTimer_undue (h : expiryDue ((d.scope.get p).setTimer action limit) = false) :
    d.setTimer p action limit = (d.onScope p fun s => s.setTimer action limit).requestUpdate := by
  simp [Device.setTimer, h]

theorem Device.setTimer_due (h : expiryDue ((d.scope.get p).setTimer action limit) = true) :
    d.setTimer p action limit = ((d.onScope p fun s => s.setTimer action limit).takeExpiry p).requestUpdate := by
  simp [Device.setTimer, h]

theorem Device.setTimer_alert (h : expiryDue ((d.scope.get p).setTimer action limit) = true)
    (alert : ((d.scope.get p).setTimer action limit).scopeAction = .alert) : d.setTimer p action limit =
      ((d.latch (.aged p)).onScope p fun s => { s.setTimer action limit with expired := true }).requestUpdate := by
  rw [Device.setTimer_due h, Device.takeExpiry_alert (by simpa using alert)]
  simp [Device.onScope]

theorem Device.setTimer_abandon (h : expiryDue ((d.scope.get p).setTimer action limit) = true)
    (abandon : ((d.scope.get p).setTimer action limit).scopeAction = .abandon) (running : d.part = .running)
    (state : ((d.scope.get p).setTimer action limit).state ≠ .wedged)
    (pending : ((d.scope.get p).setTimer action limit).pendingAbandon = none)
    (jobs : ∀ j ∈ d.rollback.jobs, j.port = p → j.kind ≠ .all) : d.setTimer p action limit =
      ((d.latch (.aged p)).onScope p fun s =>
        { s.setTimer action limit with pendingAbandon := some .timer, running := false }).requestUpdate := by
  rw [Device.setTimer_due h, Device.takeExpiry_abandon (by simpa using abandon),
    Device.takeForced_eq (by simpa using running) (by simpa using state) (by simpa using pending) (by simpa using jobs)]
  simp [Device.onScope]

end

theorem modeOf_eq {a : Byte} {mode : Mode} (h : BitVec.ofNat 2 (modeNum mode) = a.extractLsb' 0 2) :
    modeOf (a.extractLsb' 0 2).toNat = some mode := by
  rw [← h]
  cases mode <;> rfl

theorem admitRunning_of {d : Device} (h : d.part = .running) : admitRunning d.part = true := by simp [admitRunning, h]

/-- Settles O55, command by command. -/
theorem setupCommandsTakeEffect : Obligations.SetupCommandsTakeEffect := by
  intro q p d f n a x3 x2 x1 x0 y3 y2 y1 y0 mode action s first last region limit asking due taken timed aged taken' running
  have admits := admitRunning_of running
  have quiet (h : Quiet d) : (tookFrame d f d.link.slot).quiet = true := (Device.quiet_iff _).2 h
  simp only [exec_eq_iff]
  refine ⟨fun payload index spare bits hq within => ?_, fun byte hq => ?_, fun payload => ?_, fun payload tens low high => ?_,
    fun empty => ?_⟩
  · refine (taken'.runs (run := fun t => t.setRegionParam f) rfl admits).trans ?_
    have inArray : ¬(region.enabled = true ∧ (last < first ∨ d.regions.lineCount.getD 0 ≤ last)) := fun ⟨on, out⟩ => by
      obtain ⟨h1, h2⟩ := within on
      omega
    simp only [Device.setRegionParam, payload, and_self, if_true, Device.setRegion, modeOf_eq bits]
    rw [if_neg (by simp [spare]; omega)]
    exact (if_neg inArray).trans (if_pos (quiet hq))
  · refine (taken'.oneByte rfl admits byte).trans ?_
    simp only [Device.setDefaultMode, modeOf_modeNum]
    exact if_pos (quiet hq)
  · have sets : effect (.setTimer f) d = (tookFrame d f d.link.slot).setTimer p action limit := by
      refine (taken'.runs (run := fun t => t.setTimerParam f) rfl admits).trans ?_
      simp only [Device.setTimerParam, payload, portOf_num, actionOf_actionNum]
      rfl
    rw [sets]
    let t := tookFrame d f d.link.slot
    have expires (due : due) : expiryDue (s.setTimer action limit) = true := by
      obtain ⟨timer, limited, reached⟩ := due
      rw [ScopePort.setTimer_running timer, expiryDue_iff]
      exact ⟨timer, limited, reached, rfl⟩
    refine ⟨fun stopped => ?_, fun timer undue => ?_, fun hdue alert => ?_, fun hdue abandon state pending jobs => ?_⟩
    · have undue : expiryDue (s.setTimer action limit) = false := by
        simp [expiryDue, ScopePort.setTimer_stopped stopped, stopped]
      exact (Device.setTimer_undue (d := t) undue).trans (congrArg timed (ScopePort.setTimer_stopped stopped action limit))
    · have undue' : expiryDue (s.setTimer action limit) = false := by
        rw [ScopePort.setTimer_running timer, ← Bool.not_eq_true, expiryDue_iff]
        exact fun ⟨_, limited, reached, _⟩ => undue ⟨timer, limited, reached⟩
      exact (Device.setTimer_undue (d := t) undue').trans (congrArg timed (ScopePort.setTimer_running timer action limit))
    · have set := ScopePort.setTimer_running hdue.1 action limit
      refine (Device.setTimer_alert (d := t) (expires hdue) ((congrArg ScopePort.scopeAction set).trans alert)).trans ?_
      subst alert
      refine Eq.trans ?_ (congrArg (fun s => aged { s with expired := true }) set)
      cases p <;> rfl
    · have set := ScopePort.setTimer_running hdue.1 action limit
      refine (Device.setTimer_abandon (d := t) (expires hdue)
        ((congrArg ScopePort.scopeAction set).trans abandon) running (fun h => state ((congrArg ScopePort.state set).symm.trans h))
        ((congrArg ScopePort.pendingAbandon set).trans pending) jobs).trans ?_
      subst abandon
      refine Eq.trans ?_ (congrArg (fun s => aged { s with pendingAbandon := some .timer, running := false }) set)
      cases p <;> rfl
  · refine (taken'.runs (run := fun t => t.setTimeoutParam f) rfl admits).trans ?_
    simp only [Device.setTimeoutParam, payload]
    exact if_pos ⟨trivial, trivial, by simp [timeoutInRange, tens, low, high, num16, limit]⟩
  · exact taken'.bare (run := Device.requestUpdate) rfl admits empty

/-! ## FORMAT JOURNAL and FORCE ABANDON -/

/-- A word is read back from its four bytes. -/
theorem num32_extracts (x : BitVec 32) :
    num32 (x.extractLsb' 24 8) (x.extractLsb' 16 8) (x.extractLsb' 8 8) (x.extractLsb' 0 8) = x := by
  rw [num32, BitVec.extractLsb'_append_extractLsb'_eq_extractLsb' (by omega),
    BitVec.extractLsb'_append_extractLsb'_eq_extractLsb' (by omega),
    BitVec.extractLsb'_append_extractLsb'_eq_extractLsb' (by omega), BitVec.extractLsb'_eq_self]

/-- Settles O56, from what each check of the two commands asks. -/
theorem formatAndForceAreAccepted : Obligations.FormatAndForceAreAccepted := by
  intro q p d f arrayLines base lines low be s taken
  refine ⟨fun payload part h1 h2 h3 h4 h5 h6 h7 => exec_eq_iff.2 ?_, fun byte running => ?_⟩
  · have admits : admitFormatted d.part = true := by rcases part with h | h | ⟨h, -⟩ <;> simp [admitFormatted, h]
    refine (taken.runs (run := fun t => t.formatParam f) rfl admits).trans ?_
    have inRange : formatInRange ⟨arrayLines.toNat, base.toNat, lines.toNat, low.toNat, d.part⟩ = true := by
      simp only [formatInRange, Bool.and_eq_true, decide_eq_true_iff]
      exact ⟨⟨⟨⟨⟨⟨h1, h2⟩, h3⟩, h4⟩, h5⟩, h6⟩, h7⟩
    have quiet : ¬((tookFrame d f d.link.slot).part = .running ∧ (tookFrame d f d.link.slot).quiet = false) := by
      rintro ⟨running, noisy⟩
      have running : d.part = .running := running
      have quiet : Quiet d := by rcases part with h | h | ⟨-, h⟩ <;> simp_all
      exact absurd ((Device.quiet_iff (tookFrame d f d.link.slot)).2 quiet) (by simp [noisy])
    simp only [Device.formatParam, payload, be, List.cons_append, List.nil_append, num32_extracts]
    exact (if_pos inRange).trans (if_neg quiet)
  · have takes : effect (.forceAbandon f) d = (tookFrame d f d.link.slot).forceAbandon p := by
      refine (taken.oneByte rfl (admitRunning_of running) byte).trans ?_
      simp only [Device.forceParam, portOf_num]
    refine ⟨fun state pending jobs => exec_eq_iff.2 (takes.trans ?_), fun refused => exec_eq_iff.2 (takes.trans ?_)⟩
    · have noJob : (tookFrame d f d.link.slot).forcedJob p = false := (Device.forcedJob_eq_false_iff _ p).2 jobs
      refine (if_neg ?_).trans
        (congrArg (fun t : Device => t.work (.force p))
          (Device.takeForced_eq (d := tookFrame d f d.link.slot) running state pending jobs .forced))
      rintro (h | h | h)
      · exact state h
      · exact absurd pending (Option.isSome_iff_ne_none.1 h)
      · rw [noJob] at h
        contradiction
    · refine (if_pos ?_).trans (taken.reply .wrongState [])
      rcases refused with h | h | ⟨j, hj, port, kind⟩
      · exact .inl h
      · exact .inr (.inl (Option.isSome_iff_ne_none.2 h))
      · refine .inr (.inr (Bool.not_eq_false _ ▸ fun h => ?_))
        exact (Device.forcedJob_eq_false_iff _ p).1 h j hj port kind

end Sys2Proof.Machine

/-!
The refusals of management commands in their order (O59).
-/
namespace Sys2Proof.Machine

-- One proof at a time: each would otherwise hold a thread of its own.
set_option Elab.async false

/-! ## Payloads that are refused -/

section
variable {t : Device} {f : Frame}

theorem Device.oneByte_of_length {run : Device → Byte → Device} (h : f.payload.length ≠ 4) :
    t.oneByte f run = t.reply .badParam [] := by
  unfold Device.oneByte
  split
  · next shape => exact absurd (congrArg List.length shape) h
  · rfl

theorem Device.maskParam_of_length {run : Device → BitVec 10 → Device} (h : f.payload.length ≠ 4) :
    t.maskParam f run = t.reply .badParam [] := by
  unfold Device.maskParam
  split
  · next shape => exact absurd (congrArg List.length shape) h
  · rfl

theorem Device.setTimerParam_of_length (h : f.payload.length ≠ 4) : t.setTimerParam f = t.reply .badParam [] := by
  unfold Device.setTimerParam
  split
  · next shape => exact absurd (congrArg List.length shape) h
  · rfl

theorem Device.setTimeoutParam_of_length (h : f.payload.length ≠ 4) : t.setTimeoutParam f = t.reply .badParam [] := by
  unfold Device.setTimeoutParam
  split
  · next shape => exact absurd (congrArg List.length shape) h
  · rfl

theorem Device.setRegionParam_of_length (h : f.payload.length ≠ 12) : t.setRegionParam f = t.reply .badParam [] := by
  unfold Device.setRegionParam
  split
  · next shape => exact absurd (congrArg List.length shape) h
  · rfl

theorem Device.formatParam_of_length (h : f.payload.length ≠ 16) : t.formatParam f = t.reply .badParam [] := by
  unfold Device.formatParam
  split
  · next shape => exact absurd (congrArg List.length shape) h
  · rfl

variable {x z1 z2 z3 : Byte}

theorem Device.oneByte_of_rest {run : Device → Byte → Device} (shape : f.payload = [x, z1, z2, z3])
    (h : ¬(z1 = 0#8 ∧ z2 = 0#8 ∧ z3 = 0#8)) : t.oneByte f run = t.reply .badParam [] := by
  simp only [Device.oneByte, shape, if_neg h]

theorem Device.maskParam_of_rest {run : Device → BitVec 10 → Device} (shape : f.payload = [x, z1, z2, z3])
    (h : ¬(z2 = 0#8 ∧ z3 = 0#8)) : t.maskParam f run = t.reply .badParam [] := by
  simp only [Device.maskParam, shape, if_neg h]

/-- A command with a byte parameter that is refused, whether for the bytes behind it or for the byte itself. -/
theorem Device.oneByte_of_run {run : Device → Byte → Device} (shape : f.payload = [x, z1, z2, z3])
    (h : run t x = t.reply .badParam []) : t.oneByte f run = t.reply .badParam [] := by
  simp only [Device.oneByte, shape, h, ite_self]

end

theorem modeOf_eq_none_of_ge {n : Nat} (h : 3 ≤ n) : modeOf n = none := by
  obtain ⟨k, rfl⟩ := Nat.exists_eq_add_of_le' h
  rfl

theorem modeOf_isSome_of_lt {n : Nat} (h : n < 3) : ∃ mode, modeOf n = some mode := by
  match n, h with
  | 0, _ => exact ⟨.pass, rfl⟩
  | 1, _ => exact ⟨.journal, rfl⟩
  | 2, _ => exact ⟨.guard, rfl⟩

theorem actionOf_eq_none {a : Byte} (h : 1 < a.toNat) : actionOf a = none := by
  have h0 : a ≠ 0#8 := fun e => by simp [e] at h
  have h1 : a ≠ 1#8 := fun e => by simp [e] at h
  simp [actionOf, h0, h1]

/-! ## Which part states admit a command -/

/-- The part state admits the command (Table 8-6). -/
def Admitted (d : Device) (f : Frame) (c : Instr) : Prop :=
  (c ∈ [.setRegion f, .setDefaultMode f, .setTimer f, .setArrayTimeout f, .syncAnchor f, .forceAbandon f] →
    d.part = .running) ∧
  (c ∈ [.ackAlerts f, .setAlertMask f, .clearCounters f, .formatJournal f] →
    d.part = .running ∨ d.part = .unformatted ∨ d.part = .failed) ∧
  (c = .resetPart f → d.part ≠ .stopping ∧ d.part ≠ .safe)

section
variable {d : Device} {f : Frame} {c : Instr}

theorem Admitted.running (h : Admitted d f c)
    (hc : c ∈ [.setRegion f, .setDefaultMode f, .setTimer f, .setArrayTimeout f, .syncAnchor f, .forceAbandon f]) :
    admitRunning d.part = true := admitRunning_of (h.1 hc)

theorem Admitted.formatted (h : Admitted d f c)
    (hc : c ∈ [.ackAlerts f, .setAlertMask f, .clearCounters f, .formatJournal f]) : admitFormatted d.part = true :=
  admitFormatted_of (h.2.1 hc)

theorem Admitted.reset (h : Admitted d f (.resetPart f)) : admitReset d.part = true := by
  obtain ⟨stopping, safe⟩ := h.2.2 rfl
  simp [admitReset, stopping, safe]

/-- A command whose payload its own check refuses is answered BADPARAM. -/
def RunsAs (d : Device) (f : Frame) (c : Instr) (run : Device → Device) : Prop :=
  ∃ admitted : PartState → Bool, effect c d = d.command f admitted run ∧ admitted d.part = true

theorem RunsAs.badParam {run : Device → Device} (h : RunsAs d f c run) (taken : FrameTaken d f)
    (bad : run (tookFrame d f d.link.slot) = (tookFrame d f d.link.slot).reply .badParam []) (q : List Instr) :
    exec c ⟨q, d⟩ = .next ⟨q, tookFrame d f (.ready .badParam [])⟩ := by
  obtain ⟨admitted, heff, ok⟩ := h
  exact exec_eq_iff.2 ((taken.runs heff ok).trans (bad.trans (taken.reply .badParam [])))

/-- The commands without parameters (R174). -/
theorem Admitted.bare (h : Admitted d f c)
    (hc : c ∈ [.getState f, .getJournal f, .getAlerts f, .clearCounters f, .syncAnchor f, .resetPart f]) :
    ∃ run, RunsAs d f c fun t => t.bare f run := by
  simp only [List.mem_cons, List.not_mem_nil, or_false] at hc
  rcases hc with rfl | rfl | rfl | rfl | rfl | rfl
  · exact ⟨fun t => t.reply .done t.statePayload, admitAll, rfl, rfl⟩
  · exact ⟨fun t => t.reply .done t.journalPayload, admitAll, rfl, rfl⟩
  · exact ⟨fun t => t.reply .done t.alertsPayload, admitAll, rfl, rfl⟩
  · exact ⟨Device.clearCounters, admitFormatted, rfl, h.formatted (by simp)⟩
  · exact ⟨Device.requestUpdate, admitRunning, rfl, h.running (by simp)⟩
  · exact ⟨Device.resetPart, admitReset, rfl, h.reset⟩

/-- The commands with one parameter byte (R174). -/
theorem Admitted.oneByte (h : Admitted d f c)
    (hc : c ∈ [.getScope f, .getClaims f, .getRegion f, .getCounters f, .setDefaultMode f, .forceAbandon f]) :
    ∃ run, RunsAs d f c fun t => t.oneByte f run := by
  simp only [List.mem_cons, List.not_mem_nil, or_false] at hc
  rcases hc with rfl | rfl | rfl | rfl | rfl | rfl
  · exact ⟨Device.getScope, admitAll, rfl, rfl⟩
  · exact ⟨fun t a => t.reply .done (t.claimsPayload a.toNat), admitAll, rfl, rfl⟩
  · exact ⟨Device.getRegion, admitAll, rfl, rfl⟩
  · exact ⟨Device.getCounters, admitAll, rfl, rfl⟩
  · exact ⟨Device.setDefaultMode, admitRunning, rfl, h.running (by simp)⟩
  · exact ⟨Device.forceParam, admitRunning, rfl, h.running (by simp)⟩

/-- The commands with a latch mask (R174). -/
theorem Admitted.mask (h : Admitted d f c) (hc : c ∈ [.ackAlerts f, .setAlertMask f]) :
    ∃ run, RunsAs d f c fun t => t.maskParam f run := by
  simp only [List.mem_cons, List.not_mem_nil, or_false] at hc
  rcases hc with rfl | rfl
  · exact ⟨Device.ackAlerts, admitFormatted, rfl, h.formatted (by simp)⟩
  · exact ⟨Device.setAlertMask, admitFormatted, rfl, h.formatted (by simp)⟩

/-- The commands whose payload has 4 bytes (R174). -/
theorem Admitted.fourBytes (h : Admitted d f c)
    (hc : c ∈ [.getScope f, .getClaims f, .getRegion f, .getCounters f, .ackAlerts f, .setAlertMask f,
      .setDefaultMode f, .setTimer f, .setArrayTimeout f, .forceAbandon f]) (length : f.payload.length ≠ 4) :
    ∃ run, RunsAs d f c run ∧ ∀ t, run t = t.reply .badParam [] := by
  have cases : c ∈ [.getScope f, .getClaims f, .getRegion f, .getCounters f, .setDefaultMode f, .forceAbandon f] ∨
      c ∈ [.ackAlerts f, .setAlertMask f] ∨ c = .setTimer f ∨ c = .setArrayTimeout f := by
    simp only [List.mem_cons, List.not_mem_nil, or_false] at hc ⊢
    tauto
  rcases cases with hc | hc | rfl | rfl
  · obtain ⟨run, runs⟩ := h.oneByte hc
    exact ⟨_, runs, fun t => Device.oneByte_of_length length⟩
  · obtain ⟨run, runs⟩ := h.mask hc
    exact ⟨_, runs, fun t => Device.maskParam_of_length length⟩
  · exact ⟨_, ⟨admitRunning, rfl, h.running (by simp)⟩, fun t => Device.setTimerParam_of_length length⟩
  · exact ⟨_, ⟨admitRunning, rfl, h.running (by simp)⟩, fun t => Device.setTimeoutParam_of_length length⟩

/-! ## WRONGSTATE -/

theorem setup_wrongState (taken : FrameTaken d f)
    (hc : c ∈ [.setRegion f, .setDefaultMode f, .setTimer f, .setArrayTimeout f, .syncAnchor f, .forceAbandon f])
    (part : d.part ≠ .running) : effect c d = tookFrame d f (.ready .wrongState []) := by
  have no : admitRunning d.part = false := by simp [admitRunning, part]
  have refuses (run : Device → Device) : d.command f admitRunning run = tookFrame d f (.ready .wrongState []) := by
    rw [Device.command_eq taken, no]
    rfl
  simp only [List.mem_cons, List.not_mem_nil, or_false] at hc
  rcases hc with rfl | rfl | rfl | rfl | rfl | rfl <;> simp only [effect, refuses]

theorem upkeep_wrongState (taken : FrameTaken d f)
    (hc : c ∈ [.ackAlerts f, .setAlertMask f, .clearCounters f, .formatJournal f]) (running : d.part ≠ .running)
    (unformatted : d.part ≠ .unformatted) (failed : d.part ≠ .failed) :
    effect c d = tookFrame d f (.ready .wrongState []) := by
  have no : admitFormatted d.part = false := by simp [admitFormatted, running, unformatted, failed]
  have refuses (run : Device → Device) : d.command f admitFormatted run = tookFrame d f (.ready .wrongState []) := by
    rw [Device.command_eq taken, no]
    rfl
  simp only [List.mem_cons, List.not_mem_nil, or_false] at hc
  rcases hc with rfl | rfl | rfl | rfl <;> simp only [effect, refuses]

end

/-! ## Ranges -/

section
variable {t : Device}

/-- A region SET REGION takes (R74). -/
def RegionInRange (t : Device) (n a : Byte) (first last : BitVec 32) : Prop :=
  n.toNat < 8 ∧ a.extractLsb' 0 2 ≠ 3#2 ∧ a.extractLsb' 4 4 = 0#4 ∧
    (a.getLsbD 2 = true → first.toNat ≤ last.toNat ∧ last.toNat < t.regions.lineCount.getD 0)

theorem modeOf_bits_eq_none_iff : ∀ bits : BitVec 2, modeOf bits.toNat = none ↔ bits = 3#2 := by decide

theorem Device.setRegion_badParam {n a : Byte} {first last : BitVec 32} (h : ¬RegionInRange t n a first last) :
    t.setRegion n a first last = t.reply .badParam [] := by
  unfold Device.setRegion
  split
  · rfl
  · next mode some =>
    have mode3 : a.extractLsb' 0 2 ≠ 3#2 := fun e => by rw [(modeOf_bits_eq_none_iff _).2 e] at some; contradiction
    dsimp only
    split
    · rfl
    · next head =>
      obtain ⟨index, spare⟩ := not_or.1 head
      split
      · rfl
      · next out =>
        refine absurd ⟨Nat.lt_of_not_le index, mode3, not_not.1 spare, fun on => ?_⟩ h
        exact ⟨Nat.le_of_not_lt fun lt => out ⟨on, .inl lt⟩, Nat.lt_of_not_le fun le => out ⟨on, .inr le⟩⟩

theorem Device.setRegion_notQuiet {n a : Byte} {first last : BitVec 32} (h : RegionInRange t n a first last)
    (noisy : t.quiet = false) : t.setRegion n a first last = t.reply .notQuiet [] := by
  obtain ⟨index, mode3, spare, within⟩ := h
  unfold Device.setRegion
  split
  · next none => exact absurd ((modeOf_bits_eq_none_iff _).1 none) mode3
  · have head : ¬(8 ≤ n.toNat ∨ a.extractLsb' 4 4 ≠ 0#4) := by
      rintro (h | h)
      · omega
      · exact h spare
    have out : ¬(a.getLsbD 2 = true ∧ (last.toNat < first.toNat ∨ t.regions.lineCount.getD 0 ≤ last.toNat)) := by
      rintro ⟨on, h⟩
      obtain ⟨h1, h2⟩ := within on
      omega
    exact (if_neg head).trans ((if_neg out).trans (if_neg (by simp [noisy])))

theorem formatInRange_iff (f : Format) : formatInRange f = true ↔
    1 ≤ f.arrayLines ∧ f.arrayLines ≤ 2 ^ 26 ∧ 4 ≤ f.base ∧ 256 ≤ f.lines ∧ f.lines ≤ 262144 ∧
      f.base + f.lines ≤ f.arrayLines ∧ f.lowWater ≤ 2 * f.lines - 9 := by
  simp only [formatInRange, Bool.and_eq_true, decide_eq_true_iff, and_assoc]
  rfl

end

/-- Settles O59, in the order of R164. -/
theorem commandsAreRefusedInOrder : Obligations.CommandsAreRefusedInOrder := by
  intro q d f c refused setups upkeep admitted be taken
  have noisy (h : ¬Quiet d) : (tookFrame d f d.link.slot).quiet = false :=
    Bool.eq_false_iff.2 fun quiet => h ((Device.quiet_iff (tookFrame d f d.link.slot)).1 quiet)
  refine ⟨fun hc part => exec_eq_iff.2 (setup_wrongState taken hc part),
    fun hc h1 h2 h3 => exec_eq_iff.2 (upkeep_wrongState taken hc h1 h2 h3), fun hc part => ?_, fun ok hc payload => ?_,
    fun ok hc length => ?_, fun ok hc length => ?_, fun ok hc length => ?_, fun x z1 z2 z3 ok shape => ⟨fun hc rest => ?_,
      fun hc rest => ?_, fun hc big => ?_, fun hc big => ?_, fun hc big => ?_, ?_, fun hc h1 h2 h3 x3 hq => ?_⟩,
    fun n a z1 z2 first last running hc shape => ?_, fun arrayLines base lines low ok hc shape => ?_⟩
  · subst hc
    refine exec_eq_iff.2 (taken.refuses (run := fun t => t.bare f Device.resetPart) rfl ?_)
    rcases part with h | h <;> simp [admitReset, h]
  · obtain ⟨run, runs⟩ := Admitted.bare ok hc
    exact runs.badParam taken (if_neg payload) q
  · obtain ⟨run, runs, bad⟩ := Admitted.fourBytes ok hc length
    exact runs.badParam taken (bad _) q
  · subst hc
    have runs : RunsAs d f (.setRegion f) fun t => t.setRegionParam f := ⟨admitRunning, rfl, Admitted.running ok (by simp)⟩
    exact runs.badParam taken (Device.setRegionParam_of_length length) q
  · subst hc
    have runs : RunsAs d f (.formatJournal f) fun t => t.formatParam f :=
      ⟨admitFormatted, rfl, Admitted.formatted ok (by simp)⟩
    exact runs.badParam taken (Device.formatParam_of_length length) q
  · obtain ⟨run, runs⟩ := Admitted.oneByte ok hc
    exact runs.badParam taken (Device.oneByte_of_rest shape rest) q
  · obtain ⟨run, runs⟩ := Admitted.mask ok hc
    exact runs.badParam taken (Device.maskParam_of_rest shape rest) q
  · subst hc
    have runs : RunsAs d f (.setDefaultMode f) fun t => t.oneByte f Device.setDefaultMode :=
      ⟨admitRunning, rfl, Admitted.running ok (by simp)⟩
    refine runs.badParam taken (Device.oneByte_of_run shape ?_) q
    simp only [Device.setDefaultMode, modeOf_eq_none_of_ge big]
  · subst hc
    have runs : RunsAs d f (.forceAbandon f) fun t => t.oneByte f Device.forceParam :=
      ⟨admitRunning, rfl, Admitted.running ok (by simp)⟩
    refine runs.badParam taken (Device.oneByte_of_run shape ?_) q
    simp only [Device.forceParam, portOf_eq_none big]
  · subst hc
    have runs : RunsAs d f (.setTimer f) fun t => t.setTimerParam f := ⟨admitRunning, rfl, Admitted.running ok (by simp)⟩
    refine runs.badParam taken ?_ q
    simp only [Device.setTimerParam, shape]
    rcases big with big | big
    · simp only [portOf_eq_none big]
    · cases portOf x <;> simp only [actionOf_eq_none big]
  · intro hc timeout bad
    subst hc
    have runs : RunsAs d f (.setArrayTimeout f) fun t => t.setTimeoutParam f :=
      ⟨admitRunning, rfl, Admitted.running ok (by simp)⟩
    refine runs.badParam taken ?_ q
    simp only [Device.setTimeoutParam, shape]
    refine if_neg ?_
    rintro ⟨hx, hz, inRange⟩
    have inRange : timeoutInRange timeout = true := inRange
    simp only [timeoutInRange, Bool.and_eq_true, decide_eq_true_iff] at inRange
    rcases bad with h | h | h | h
    · exact h ⟨hx, hz⟩
    · omega
    · omega
    · omega
  · subst hc
    refine exec_eq_iff.2 ((taken.oneByte rfl (Admitted.running ok (by simp)) (shape.trans (by rw [h1, h2, h3]; rfl))).trans ?_)
    obtain ⟨mode, some⟩ := modeOf_isSome_of_lt x3
    simp only [Device.setDefaultMode, some]
    exact (if_neg (by simp [noisy hq])).trans (taken.reply .notQuiet [])
  · intro enabled inRange
    subst hc
    have sets : effect (.setRegion f) d = (tookFrame d f d.link.slot).setRegionParam f :=
      taken.runs (run := fun t => t.setRegionParam f) rfl (admitRunning_of running)
    have param : (tookFrame d f d.link.slot).setRegionParam f =
        if z1 = 0#8 ∧ z2 = 0#8 then (tookFrame d f d.link.slot).setRegion n a first last
        else (tookFrame d f d.link.slot).reply .badParam [] := by
      simp only [Device.setRegionParam, shape, be, List.cons_append, List.nil_append, num32_extracts]
    refine ⟨fun out => exec_eq_iff.2 ?_, fun ⟨h1, h2, within⟩ hq => exec_eq_iff.2 ?_⟩
    · rw [sets, param]
      refine Eq.trans ?_ (taken.reply .badParam [])
      by_cases zero : z1 = 0#8 ∧ z2 = 0#8
      · rw [if_pos zero]
        exact Device.setRegion_badParam fun within => out ⟨zero.1, zero.2, within⟩
      · rw [if_neg zero]
    · rw [sets, param, if_pos ⟨h1, h2⟩]
      exact (Device.setRegion_notQuiet (t := tookFrame d f d.link.slot) within (noisy hq)).trans (taken.reply .notQuiet [])
  · intro inRange
    subst hc
    have accepts : effect (.formatJournal f) d = (tookFrame d f d.link.slot).acceptFormat
        ⟨arrayLines.toNat, base.toNat, lines.toNat, low.toNat, d.part⟩ := by
      refine (taken.runs (run := fun t => t.formatParam f) rfl (Admitted.formatted ok (by simp))).trans ?_
      simp only [Device.formatParam, shape, be, List.cons_append, List.nil_append, num32_extracts]
      rfl
    refine ⟨fun out => exec_eq_iff.2 ?_, fun within running hq => exec_eq_iff.2 ?_⟩
    · rw [accepts]
      exact (if_neg fun h => out ((formatInRange_iff _).1 h)).trans (taken.reply .badParam [])
    · rw [accepts]
      exact (if_pos ((formatInRange_iff _).2 within)).trans ((if_pos ⟨running, noisy hq⟩).trans (taken.reply .notQuiet []))

end Sys2Proof.Machine

/-!
Part resets (O7), and the forced abandons: expiry, the end of their wait, the entry into SAFE (O41, O48).
-/
namespace Sys2Proof.Machine

-- One proof at a time: each would otherwise hold a thread of its own.
set_option Elab.async false

/-! ## The slot and the waiting command -/

theorem Device.forceReply_eq (d : Device) (p : Port) (code : ReplyCode) (scopes lines : Nat) :
    d.forceReply p code scopes lines =
      { d with link := toldOf d.link (.force p) code (forceCounts scopes lines) } := by
  unfold Device.forceReply
  split
  · next slot => exact Device.reply_eq_toldOf slot ..
  · next slot => rw [toldOf, if_neg slot]

theorem toldOf_of_slot {l : LinkController} {w : Work} (h : l.slot ≠ .working w) (code : ReplyCode) (payload : List Byte) :
    toldOf l w code payload = l := if_neg h

/-! ## The end of the wait outside RUNNING -/

/-- The link controller when the wait of port p ends outside RUNNING (R22). -/
def waitTold (s : ScopePort) (p : Port) (l : LinkController) : LinkController :=
  if s.pendingAbandon ≠ none ∧ s.stack = [] then toldOf l (.force p) .done (forceCounts 0 0) else l

section
variable {s : ScopePort} {p : Port} {l : LinkController}

theorem waitTold_other (h : l.slot = .working (.force p) → ¬(s.pendingAbandon ≠ none ∧ s.stack = [])) :
    waitTold s p l = l := by
  unfold waitTold
  split
  · next done => exact toldOf_of_slot (fun slot => h slot done) ..
  · rfl

end

section
variable {d : Device} {p : Port}

theorem Device.waitOver_iff (d : Device) (p : Port) : d.waitOver p = true ↔
    (d.scope.get p).pendingAbandon ≠ none ∧ ∀ e ∈ (d.host.get p).queue, isBegun e = false := by
  simp [Device.waitOver, HostPort.begun_eq_zero_iff, Option.isSome_iff_ne_none]

theorem Device.abandonWaitEnd_none (h : (d.scope.get p).pendingAbandon = none) : d.abandonWaitEnd p = d := by
  simp only [Device.abandonWaitEnd, h]

theorem Device.abandonWaitEnd_begun (h : ¬∀ e ∈ (d.host.get p).queue, isBegun e = false) : d.abandonWaitEnd p = d := by
  have waits : d.waitOver p = false := Bool.eq_false_iff.2 fun ended => h ((d.waitOver_iff p).1 ended).2
  unfold Device.abandonWaitEnd
  split
  · rfl
  · rw [waits]
    rfl

section
variable {cause : AbandonCause} (pending : (d.scope.get p).pendingAbandon = some cause)
  (idle : ∀ e ∈ (d.host.get p).queue, isBegun e = false)
include pending idle

theorem Device.abandonWaitEnd_running (h : d.part = .running) : d.abandonWaitEnd p = d.settleAbandon p cause := by
  have ended : d.waitOver p = true := (d.waitOver_iff p).2 ⟨by simp [pending], idle⟩
  simp only [Device.abandonWaitEnd, pending, ended, h, if_true]

theorem Device.abandonWaitEnd_dropped (h : d.part ≠ .running) : d.abandonWaitEnd p = d.dropAbandon p := by
  have ended : d.waitOver p = true := (d.waitOver_iff p).2 ⟨by simp [pending], idle⟩
  simp only [Device.abandonWaitEnd, pending, ended, h, if_true, if_false]

end

/-- Outside RUNNING the pending abandon is cleared and a waiting FORCE ABANDON told at depth 0 (R22). -/
theorem Device.abandonWaitEnd_eq (idle : ∀ e ∈ (d.host.get p).queue, isBegun e = false) (h : d.part ≠ .running) :
    d.abandonWaitEnd p = { d with
      scope := d.scope.set p { d.scope.get p with pendingAbandon := none }
      link := waitTold (d.scope.get p) p d.link } := by
  cases pending : (d.scope.get p).pendingAbandon with
  | none =>
    rw [Device.abandonWaitEnd_none pending, waitTold, if_neg (by simp [pending]), ← pending]
    exact congrArg (fun scope => { d with scope := scope }) (PerPort.set_get d.scope p).symm
  | some cause =>
    rw [Device.abandonWaitEnd_dropped pending idle h, waitTold, pending]
    by_cases empty : (d.scope.get p).stack = []
    · rw [if_pos ⟨nofun, empty⟩]
      have depth : (d.clearPending p).depth p = 0 := by simp [Device.clearPending, Device.depth, Device.onScope, empty]
      exact (if_pos depth).trans (Device.forceReply_eq ..)
    · rw [if_neg fun h => empty h.2]
      have depth : (d.clearPending p).depth p ≠ 0 := by simp [Device.clearPending, Device.depth, Device.onScope, empty]
      exact if_neg depth

/-! ## Entering SAFE -/

/-- The part in SAFE, its link controller given. -/
def inSafe (d : Device) (link : LinkController) : Device := { d with
  part := .safe
  scope := ⟨{ d.scope.p0 with pendingAbandon := none }, { d.scope.p1 with pendingAbandon := none }⟩
  alerts := { d.alerts with latches := d.alerts.latches ||| 0x200#10 }
  anchor := { d.anchor with format := none }
  link := link }

/-- The link controller when both waits have ended. -/
def waitsTold (d : Device) : LinkController := waitTold d.scope.p1 .p1 (waitTold d.scope.p0 .p0 d.link)

theorem waitsTold_free {d : Device} (free : ∀ w, d.link.slot ≠ .working w) : waitsTold d = d.link := by
  have told0 : waitTold d.scope.p0 .p0 d.link = d.link := waitTold_other fun slot => absurd slot (free _)
  rw [waitsTold, told0]
  exact waitTold_other fun slot => absurd slot (free _)

theorem Device.workEnded_iff (d : Device) : d.workEnded = true ↔
    (∀ e ∈ d.host.p0.queue, isBegun e = false) ∧ (∀ e ∈ d.host.p1.queue, isBegun e = false) ∧
    d.journal.queue = [] ∧ d.journal.append = none ∧ d.anchor.update = none ∧
    (∀ j ∈ d.rollback.jobs, j.phase = .waiting) ∧ d.array.anchorReq = none ∧ d.array.recoveryReq = none ∧
    d.array.outstanding = none := by
  simp [Device.workEnded, ArrayPort.idleEngines, HostPort.begun_eq_zero_iff, and_assoc]

theorem Device.safeEntry_stays (h : d.part ≠ .stopping ∨ d.workEnded = false) : d.safeEntry = d :=
  if_neg (by rcases h with h | h <;> simp [h])

section
variable (part : d.part = .stopping) (ended : d.workEnded = true)
include part ended

theorem Device.waitsEnd_eq : (d.abandonWaitEnd .p0).abandonWaitEnd .p1 = { d with
    scope := ⟨{ d.scope.p0 with pendingAbandon := none }, { d.scope.p1 with pendingAbandon := none }⟩
    link := waitsTold d } := by
  obtain ⟨idle0, idle1, -⟩ := d.workEnded_iff.1 ended
  rw [Device.abandonWaitEnd_eq (p := .p0) idle0 (by simp [part])]
  exact Device.abandonWaitEnd_eq (p := .p1) idle1 (by simp [part])

/-- With no command waiting in the slot SAFE is entered with the slot as it is. -/
theorem Device.safeEntry_free (slot : ∀ w, (waitsTold d).slot ≠ .working w) : d.safeEntry = inSafe d (waitsTold d) := by
  refine (if_pos ⟨part, ended⟩).trans ?_
  rw [Device.waitsEnd_eq part ended]
  cases hslot : (waitsTold d).slot with
  | working w => exact absurd hslot (slot w)
  | empty => simp only [Device.latch, Device.onAnchor, hslot]; rfl
  | ready code payload => simp only [Device.latch, Device.onAnchor, hslot]; rfl

/-- A command that still waits in the slot is answered WRONGSTATE (R143). -/
theorem Device.safeEntry_working {w : Work} (slot : (waitsTold d).slot = .working w) :
    d.safeEntry = inSafe d (toldOf (waitsTold d) w .wrongState []) := by
  refine (if_pos ⟨part, ended⟩).trans ?_
  rw [Device.waitsEnd_eq part ended]
  simp only [Device.latch, Device.onAnchor, slot]
  exact Device.reply_eq_toldOf (d := inSafe d (waitsTold d)) slot ..

end

end

/-- Settles O48, by what waits in the slot. -/
theorem safeIsEntered : Obligations.SafeIsEntered := by
  intro q d ended safe forcedDone
  have hended : ended ↔ d.workEnded = true := d.workEnded_iff.symm
  refine ⟨fun part work free => exec_eq_iff.2 ?_, fun part work w slot => ⟨fun other => exec_eq_iff.2 ?_, fun done => exec_eq_iff.2 ?_⟩,
    fun stays => exec_eq_iff.2 ?_⟩
  · have untold := waitsTold_free free
    refine (Device.safeEntry_free part (hended.1 work) (untold ▸ free)).trans ?_
    rw [untold]
    rfl
  · have untold : waitsTold d = d.link := by
      have told0 : waitTold d.scope.p0 .p0 d.link = d.link := waitTold_other fun force done =>
        other ⟨.p0, Slot.working.inj (slot.symm.trans force), done⟩
      rw [waitsTold, told0]
      exact waitTold_other fun force done => other ⟨.p1, Slot.working.inj (slot.symm.trans force), done⟩
    refine (Device.safeEntry_working part (hended.1 work) (untold ▸ slot)).trans ?_
    rw [untold]
    rfl
  · have told : waitsTold d = toldOf d.link w .done (forceCounts 0 0) := by
      obtain ⟨p, rfl, pending, empty⟩ := done
      cases p with
      | p0 =>
        have told0 : waitTold d.scope.p0 .p0 d.link = toldOf d.link (.force .p0) .done (forceCounts 0 0) :=
          if_pos ⟨pending, empty⟩
        rw [waitsTold, told0]
        exact waitTold_other fun force => by simp [toldOf, slot] at force
      | p1 =>
        have told0 : waitTold d.scope.p0 .p0 d.link = d.link := waitTold_other fun force => by simp [slot] at force
        rw [waitsTold, told0]
        exact if_pos ⟨pending, empty⟩
    refine (Device.safeEntry_free part (hended.1 work) fun w' => ?_).trans ?_
    · simp [told, toldOf, slot]
    · rw [told]
      rfl
  · exact Device.safeEntry_stays (stays.imp_right fun h => Bool.eq_false_iff.2 (mt hended.2 h))

/-! ## Resets -/

theorem Device.reset_eq (d : Device) : d.reset = coldAfter d := rfl

theorem Device.startUp_eq (d : Device) : d.startUp = startedUp d := rfl

/-- With nothing in hand STOPPING and SAFE are entered together (R140, R144). -/
theorem Device.coldStop_eq (d : Device) : (coldAfter d).enterStopping.safeEntry =
    { coldAfter d with part := .safe, alerts := ⟨0x200#10, 0x3FF#10⟩, choice := d.choice + 2 } := by
  have nothing {α : Type} {P : α → Prop} : ∀ x ∈ ([] : List α), P x := fun _ h => nomatch h
  rw [Device.enterStopping_eq (d := coldAfter d) nothing nothing (fun h => nomatch h.1) fun _ => rfl]
  refine Eq.trans (Device.safeEntry_free ?_ ?_ ?_) ?_
  · rfl
  · rfl
  · intro w working
    cases working
  · rw [waitsTold_free (by intro w working; cases working)]
    simp only [inSafe, coldAfter, coldScope, haltedQueue, List.map_nil, List.filterMap_nil, List.append_nil,
      BitVec.zero_or]

section
variable {d : Device}

theorem Device.prstRelease_of (h : d.prst = true) : d.prstRelease = ({ d with prst := false } : Device).startOrStop := if_pos h

theorem Device.startOrStop_held (h : d.prst = true) : d.startOrStop = d := if_pos h

theorem Device.startOrStop_warned (released : d.prst = false) (h : d.pwrwarn = true) :
    d.startOrStop = d.enterStopping.safeEntry :=
  (if_neg (by simp [released])).trans (if_pos h)

theorem Device.startOrStop_starts (released : d.prst = false) (h : d.pwrwarn = false) : d.startOrStop = startedUp d :=
  (if_neg (by simp [released])).trans (if_neg (by simp [h]))

end

/-- Settles O7: each reset is the cleared part, and what follows it is told by the two lines. -/
theorem resetsClearEveryBlock : Obligations.ResetsClearEveryBlock := by
  intro q d f safe
  refine ⟨fun prst => exec_eq_iff.2 ?_, fun prst => exec_eq_iff.2 ?_, fun prst pwrwarn => exec_eq_iff.2 ?_,
    fun prst pwrwarn => exec_eq_iff.2 ?_, fun prst => exec_eq_iff.2 ?_, fun prst pwrwarn => exec_eq_iff.2 ?_,
    fun pwrwarn => exec_eq_iff.2 ?_, fun prst => exec_eq_iff.2 ?_, fun taken stopping safe' empty => exec_eq_iff.2 ?_⟩
  · exact if_neg (by simp [prst])
  · exact if_pos prst
  · exact Device.startOrStop_starts (d := coldAfter d) prst pwrwarn
  · refine (Device.startOrStop_warned (d := coldAfter d) prst pwrwarn).trans ((Device.coldStop_eq d).trans ?_)
    simp only [safe, coldAfter, prst]
  · exact Device.startOrStop_held (d := coldAfter d) prst
  · exact (Device.prstRelease_of prst).trans (Device.startOrStop_starts rfl pwrwarn)
  · refine (Device.prstRelease_of (d := coldAfter { d with prst := true }) rfl).trans ?_
    exact (Device.startOrStop_warned (d := coldAfter { d with prst := false }) rfl pwrwarn).trans (Device.coldStop_eq _)
  · exact if_neg (by simp [prst])
  · have admits : admitReset d.part = true := by simp [admitReset, stopping, safe']
    exact taken.bare (c := .resetPart f) (run := Device.resetPart) rfl admits empty

end Sys2Proof.Machine

/-!
Forced abandons: expiry and the end of their wait (O41).
-/
namespace Sys2Proof.Machine

-- One proof at a time: each would otherwise hold a thread of its own.
set_option Elab.async false

section
variable {d : Device} {p : Port} {cause : AbandonCause}

theorem latchBit_wedged (p : Port) : (1#10 <<< latchBit (.wedged p) : BitVec 10) =
    match p with
    | .p0 => 0x010#10
    | .p1 => 0x020#10 := by
  cases p <;> rfl

theorem Device.depth_eq_zero_iff (d : Device) (p : Port) : d.depth p = 0 ↔ (d.scope.get p).stack = [] :=
  List.length_eq_zero_iff

theorem Device.settle_freed (state : (d.scope.get p).state = .resetting) (pending : (d.scope.get p).pendingAbandon = none)
    (line : (d.host.get p).hrst = false) (jobs : ∀ j ∈ d.rollback.jobs, j.port ≠ p) :
    d.settle p = d.onScope p fun s => { s with state := .active, resetNoted := false } :=
  if_pos ⟨state, line, pending, (d.jobOf_eq_none_iff p).2 jobs⟩

theorem Device.settle_held (h : ¬((d.host.get p).hrst = false ∧ ∀ j ∈ d.rollback.jobs, j.port ≠ p)) : d.settle p = d :=
  if_neg fun ⟨_, line, _, job⟩ => h ⟨line, (d.jobOf_eq_none_iff p).1 job⟩

/-! ## The cases of R19 -/

theorem Device.settleAbandon_wedged (h : (d.scope.get p).state = .wedged) : d.settleAbandon p cause =
    ((d.countForcedAbandon p).clearPending p).forceReply p .media (d.depth p) 0 := if_pos h

theorem Device.settleAbandon_empty (h : (d.scope.get p).state ≠ .wedged) (empty : (d.scope.get p).stack = []) :
    d.settleAbandon p cause =
      (if (d.scope.get p).state = .resetting then (d.clearPending p).settle p
        else (d.clearPending p).onScope p fun s => { s with state := .active }).forceReply p .done 0 0 := by
  refine (if_neg h).trans ((if_pos ((d.depth_eq_zero_iff p).2 empty)).trans ?_)
  have state : ((d.clearPending p).scope.get p).state = (d.scope.get p).state := by simp [Device.clearPending]
  simp only [state]

theorem Device.settleAbandon_faulted (h : (d.scope.get p).state ≠ .wedged) (scopes : (d.scope.get p).stack ≠ [])
    (faulted : d.journal.faulted = true) : d.settleAbandon p cause =
      (((d.clearPending p).wedge p).countForcedAbandon p).forceReply p .media (d.depth p) 0 :=
  (if_neg h).trans ((if_neg fun empty => scopes ((d.depth_eq_zero_iff p).1 empty)).trans (if_pos faulted))

theorem Device.settleAbandon_queued (h : (d.scope.get p).state ≠ .wedged) (scopes : (d.scope.get p).stack ≠ [])
    (normal : d.journal.faulted = false) : d.settleAbandon p cause =
      let t := ((d.countForcedAbandon p).clearPending p).onScope p fun s =>
        { s with state := if s.state = .resetting then .resetting else .unwinding }
      { t with rollback := { t.rollback with
        jobs := t.rollback.jobs ++ [⟨p, .all, causeCode cause, 0, 0, .waiting, 0⟩] } } :=
  (if_neg h).trans ((if_neg fun empty => scopes ((d.depth_eq_zero_iff p).1 empty)).trans (if_neg (by simp [normal])))

end

/-- Settles O41, by the action of the expiry and the cases of R19. -/
theorem forcedAbandonsAreTakenAndSettled : Obligations.ForcedAbandonsAreTakenAndSettled := by
  intro q p d s due aged idle c counters ends
  have hdue : due ↔ d.part = .running ∧ expiryDue s = true := by rw [expiryDue_iff]
  refine ⟨fun isDue alert => exec_eq_iff.2 ?_, fun isDue abandon state pending jobs => exec_eq_iff.2 ?_,
    fun undue => exec_eq_iff.2 (if_neg fun h => undue (hdue.2 h)),
    fun none => exec_eq_iff.2 (Device.abandonWaitEnd_none none), ?_⟩
  · refine (if_pos (hdue.1 isDue)).trans ((Device.takeExpiry_alert alert).trans ?_)
    cases p <;> rfl
  · refine (if_pos (hdue.1 isDue)).trans ((Device.takeExpiry_abandon abandon).trans ?_)
    refine (Device.takeForced_eq (d := d.latch (.aged p)) isDue.1 state pending jobs .timer).trans ?_
    cases p <;> rfl
  intro told freed cause pending
  have running (i : idle) (h : d.part = .running) {t : Device} (ht : d.settleAbandon p cause = t) : ends t :=
    exec_eq_iff.2 ((Device.abandonWaitEnd_running pending i h).trans ht)
  refine ⟨fun begun => exec_eq_iff.2 (Device.abandonWaitEnd_begun begun), fun i h wedged => running i h ?_,
    fun i h state empty => running i h ?_, fun i h resetting empty free => running i h ?_,
    fun i h resetting empty held => running i h ?_, fun i h state scopes faulted => running i h ?_,
    fun i h state scopes normal => running i h ?_, fun i h => exec_eq_iff.2 ?_⟩
  · refine (Device.settleAbandon_wedged wedged).trans ((Device.forceReply_eq ..).trans ?_)
    rfl
  · have unwedged : s.state ≠ .wedged := by rcases state with h | h <;> simp [h]
    have unreset : s.state ≠ .resetting := by rcases state with h | h <;> simp [h]
    refine (Device.settleAbandon_empty unwedged empty).trans ?_
    rw [if_neg unreset]
    refine (Device.forceReply_eq ..).trans ?_
    cases p <;> rfl
  · refine (Device.settleAbandon_empty (by rw [resetting]; nofun) empty).trans ?_
    rw [if_pos resetting, Device.settle_freed (d := d.clearPending p) (by simpa [Device.clearPending] using resetting)
      (by simp [Device.clearPending]) free.1 free.2]
    refine (Device.forceReply_eq ..).trans ?_
    cases p <;> rfl
  · refine (Device.settleAbandon_empty (by rw [resetting]; nofun) empty).trans ?_
    rw [if_pos resetting, Device.settle_held (d := d.clearPending p) held]
    exact Device.forceReply_eq ..
  · refine (Device.settleAbandon_faulted state scopes faulted).trans ((Device.forceReply_eq ..).trans ?_)
    cases p <;> rfl
  · refine (Device.settleAbandon_queued state scopes normal).trans ?_
    cases p <;> cases cause <;> rfl
  · have idle : ∀ e ∈ (d.host.get p).queue, isBegun e = false := i
    rw [effect, Device.abandonWaitEnd_eq idle h, waitTold, pending]
    by_cases empty : s.stack = []
    · rw [if_pos ⟨nofun, empty⟩, if_pos empty]
    · rw [if_neg fun h => empty h.2, if_neg empty]

end Sys2Proof.Machine

/-!
Anchor updates begin, and FORMAT JOURNAL writes its copy (O42, O44).
-/
namespace Sys2Proof.Machine

-- One proof at a time: each would otherwise hold a thread of its own.
set_option Elab.async false

/-! ## A copy write begins -/

theorem AnchorUnit.waiting_iff (a : AnchorUnit) : a.waiting = true ↔
    a.writerReq = .pending ∨ a.linkReq = .pending ∨ a.recoveryReq = .pending := by
  simp [AnchorUnit.waiting, or_assoc]

theorem Update.write_first (u : Update) : u.write false =
    .writeFull (if u.target = .a then 0 else 2) (copyLine (encodeCopy u.generation u.values) false) := by
  rw [Update.write, copyBase_eq]
  rfl

theorem Update.write_second (u : Update) : u.write true =
    .writeFull (if u.target = .a then 1 else 3) (copyLine (encodeCopy u.generation u.values) true) := by
  obtain ⟨target, _⟩ := u
  cases target <;> rfl

theorem Device.beginCopy_eq (d : Device) (v : Setup) (purpose : Purpose) : d.beginCopy v purpose =
    let target : Copy := if d.anchor.newest = some .a then .b else .a
    let generation : BitVec 32 := if d.anchor.newest = none then 1#32 else d.anchor.generation + 1#32
    let line : Access := .writeFull (if target = .a then 0 else 2) (copyLine (encodeCopy generation v) false)
    { d with
      anchor := { d.anchor with update := some ⟨target, generation, v, purpose, false⟩ }
      array := { d.array with anchorReq := some line } } := by
  unfold Device.beginCopy
  rw [AnchorUnit.target_eq, AnchorUnit.nextGeneration_eq]
  dsimp only
  rw [Update.write_first]
  rfl

/-- Settles O42, by the conditions of R115. -/
theorem anchorUpdateBegins : Obligations.AnchorUpdateBegins := by
  intro q d purpose a cover target generation values line requested
  refine ⟨fun update format stopping safe asked reason => exec_eq_iff.2 ?_, fun not => exec_eq_iff.2 ?_⟩
  · refine (if_pos ⟨update, format, stopping, safe, (AnchorUnit.waiting_iff a).2 asked⟩).trans ?_
    refine (Device.beginCopy_eq ..).trans ?_
    simp only [Device.onAnchor, coverReq_eq, reason]
    rfl
  · refine if_neg fun ⟨update, format, stopping, safe, asked⟩ => ?_
    have asked : requested := (AnchorUnit.waiting_iff a).1 asked
    rcases not with h | h | h | h | h
    · exact h update
    · exact h format
    · exact stopping h
    · exact safe h
    · exact h asked

/-! ## An access that fails -/

/-- The part when the outstanding access has ended with ERROR or by its timer, the command c saying which (R157, R158). -/
def failedAccess (d : Device) (c : Instr) : Device := { portFree d with counters := { d.counters with
  arrayErrors := counted d.counters.arrayErrors
  arrayTimeouts := if c = .arrayResponseTimeout then counted d.counters.arrayTimeouts else d.counters.arrayTimeouts } }

theorem effect_failedAccess {d : Device} {o : Outstanding} {c : Instr} {data : LineData} (ho : d.array.outstanding = some o)
    (hc : c = .arrayAnswer o.number false data ∨ c = .arrayResponseTimeout) :
    effect c d = (failedAccess d c).deliver o none := by
  rcases hc with rfl | rfl
  · exact exec_eq_iff.1 (arrayAnswer_error ho [] data)
  · exact exec_eq_iff.1 (arrayResponseTimeout_some ho [])

theorem effect_answer {d : Device} {o : Outstanding} (ho : d.array.outstanding = some o) (data : LineData) :
    effect (.arrayAnswer o.number true data) d = (portFree d).deliver o (some data) :=
  exec_eq_iff.1 (arrayAnswer_ok ho [] data)

/-! ## FORMAT JOURNAL -/

section
variable {d : Device} {o : Outstanding} {u : Update}

/-- An answer to the anchor unit while a copy is written. -/
theorem Device.deliver_copy (requester : o.requester = .anchor) (cold : d.anchor.cold = none)
    (update : d.anchor.update = some u) (answer : Option LineData) :
    d.deliver o answer = if answer.isSome then d.copyLineDone u else d.copyWriteFailed u := by
  simp only [Device.deliver, requester, Device.anchorAnswer, cold, update]
  cases answer <;> rfl

theorem Device.copyLineDone_first (h : u.second = false) : d.copyLineDone u =
    let line : Access := .writeFull (if u.target = .a then 1 else 3) (copyLine (encodeCopy u.generation u.values) true)
    { d with
      anchor := { d.anchor with update := some { u with second := true } }
      array := { d.array with anchorReq := some line } } := by
  rw [← Update.write_second, Device.copyLineDone, h]
  rfl

theorem Device.copyLineDone_format {state : PartState} (h : u.second = true) (purpose : u.purpose = .format state) :
    d.copyLineDone u = d.formatDurable u := by
  simp only [Device.copyLineDone, h, purpose, if_true]

/-- The copy of a FORMAT JOURNAL is durable, its command not yet answered (R122). -/
def Device.formatTaken (d : Device) (u : Update) : Device :=
  let v := u.values
  { d with
    part := if d.part = .stopping then .stopping else .running
    anchor := { d.anchor with
      newest := some u.target, generation := u.generation, otherValid := d.anchor.newest.isSome, setup := some v,
      update := none, format := none }
    journal := { Journal.cleared with base := v.base, lines := v.lines, lowWater := v.lowWater, epoch := v.epoch }
    regions := ⟨v.regions, v.defaultMode, some v.arrayLines⟩
    scope := ⟨{ d.scope.p0 with limit := v.limit.p0, action := v.action.p0, serialCounter := 0#16 },
      { d.scope.p1 with limit := v.limit.p1, action := v.action.p1, serialCounter := 0#16 }⟩
    array := { d.array with timeout := v.timeout }
    counters := { d.counters with anchorWrites := counted d.counters.anchorWrites } }

theorem Device.loadSetup_eq (d : Device) (v : Setup) : d.loadSetup v = { d with
    scope := ⟨{ d.scope.p0 with limit := v.limit.p0, action := v.action.p0 },
      { d.scope.p1 with limit := v.limit.p1, action := v.action.p1 }⟩
    regions := ⟨v.regions, v.defaultMode, some v.arrayLines⟩
    array := { d.array with timeout := v.timeout } } := rfl

theorem Device.formatDurable_eq (slot : d.link.slot = .working .format) :
    d.formatDurable u = { d.formatTaken u with link := toldOf d.link .format .done [] } := by
  have taken : d.formatDurable u = if (d.formatTaken u).link.slot = .working .format then (d.formatTaken u).reply .done []
      else d.formatTaken u := by
    simp only [Device.formatDurable, Device.onAnchor, AnchorUnit.copyDurable, Device.countAnchorWrite, Device.loadSetup_eq,
      Device.onScope, PerPort.get_p0, PerPort.get_p1, PerPort.set_p0, PerPort.set_p1, Device.formatTaken, bump_eq_counted]
    rfl
  have slot' : (d.formatTaken u).link.slot = .working .format := slot
  rw [taken, if_pos slot', Device.reply_eq_toldOf slot']
  rfl

/-- A refusal of an empty queue leaves the part, its journal without a held item. -/
theorem Device.refuseQueue_nil (h : d.journal.queue = []) :
    d.refuseQueue = { d with journal := { d.journal with queue := [], held := none } } := by
  simp only [Device.refuseQueue, h, List.foldl_nil]

/-- A journal that is FAULTED stays so (R61). -/
theorem Device.faultJournal_again (h : d.journal.faulted = true) : d.faultJournal = (d.latch .jfault).latch .media := by
  have same : { d.journal with faulted := true } = d.journal := by rw [← h]
  rw [Device.faultJournal, same]

/-- The format copy has failed: it is recorded invalid and MEDIA is latched (R122). -/
def Device.formatLost (d : Device) : Device := (d.onAnchor fun a => { a.copyFailed with format := none }).latch .media

/-- The FORMAT JOURNAL that waits is answered MEDIA (R122). -/
def Device.formatMedia (d : Device) : Device := if d.link.slot = .working .format then d.reply .media [] else d

theorem Device.formatMedia_eq (slot : d.link.slot = .working .format) :
    d.formatMedia = { d with link := toldOf d.link .format .media [] } :=
  (if_pos slot).trans (Device.reply_eq_toldOf slot ..)

theorem Device.copyWriteFailed_of_format {state : PartState} (purpose : u.purpose = .format state) :
    d.copyWriteFailed u = (if state = .running then d.formatLost.faultJournal.refuseQueue
      else if d.journal.faulted then d.formatLost.faultJournal else d.formatLost).formatMedia := by
  simp only [Device.copyWriteFailed, purpose]
  rfl

theorem Device.formatLost_eq (d : Device) : d.formatLost = { d with
    anchor := { d.anchor with update := none, otherValid := false, format := none }
    alerts := { d.alerts with latches := d.alerts.latches ||| 64#10 } } := rfl

theorem Device.faultJournal_eq (d : Device) : d.faultJournal = { d with
    journal := { d.journal with faulted := true }
    alerts := { d.alerts with latches := (d.alerts.latches ||| 8#10) ||| 64#10 } } := rfl

theorem Device.copyWriteFailed_format {state : PartState} (purpose : u.purpose = .format state)
    (slot : d.link.slot = .working .format) (queue : state = .running → d.journal.queue = []) :
    d.copyWriteFailed u = { d with
      anchor := { d.anchor with update := none, otherValid := false, format := none }
      journal := if state = .running then { d.journal with faulted := true, queue := [], held := none } else d.journal
      alerts := { d.alerts with
        latches := d.alerts.latches ||| (if state = .running ∨ d.journal.faulted = true then 0x048#10 else 0x040#10) }
      link := toldOf d.link .format .media [] } := by
  have both (x : BitVec 10) : x ||| 0x048#10 = ((x ||| 64#10) ||| 8#10) ||| 64#10 := by
    rw [BitVec.or_assoc, BitVec.or_assoc]
    rfl
  rw [Device.copyWriteFailed_of_format purpose]
  by_cases running : state = .running
  · rw [if_pos running, if_pos running, if_pos (.inl running), both,
      Device.refuseQueue_nil (d := d.formatLost.faultJournal) (queue running), Device.faultJournal_eq, Device.formatLost_eq]
    exact Device.formatMedia_eq slot
  · rw [if_neg running, if_neg running]
    by_cases faulted : d.journal.faulted = true
    · have faulted' : d.formatLost.journal.faulted = true := faulted
      rw [if_pos faulted, if_pos (.inr faulted), both, Device.faultJournal_again faulted', Device.formatLost_eq]
      exact Device.formatMedia_eq slot
    · rw [if_neg faulted, if_neg (by simp [running, faulted]), Device.formatLost_eq]
      exact Device.formatMedia_eq slot

end

/-- Settles O44, by the purpose of the copy and the line it has reached. -/
theorem formatWritesANewJournal : Obligations.FormatWritesANewJournal := by
  intro q d a
  refine ⟨fun f format update stopping safe => ?_, fun not => exec_eq_iff.2 ?_, fun o u state data => ?_⟩
  · intro target generation values line
    have hvalues : a.formatValues f = values := by
      simp only [AnchorUnit.formatValues, AnchorUnit.formatEpoch, values]
      cases a.setup <;> rfl
    refine exec_eq_iff.2 ?_
    change d.formatCopy = _
    unfold Device.formatCopy
    simp only [show d.anchor.format = some f from format]
    refine (if_pos ⟨update, stopping, safe⟩).trans ((Device.beginCopy_eq ..).trans ?_)
    have same : (d.onAnchor fun a => { a with writerReq := .none, linkReq := .none, recoveryReq := .none }).anchor.formatValues f
        = values := hvalues
    rw [same]
    rfl
  · change d.formatCopy = d
    unfold Device.formatCopy
    split
    · rfl
    · next f format =>
      refine if_neg fun ⟨update, stopping, safe⟩ => ?_
      rcases not with h | h | h | h
      · simp [a, format] at h
      · exact h update
      · exact stopping h
      · exact safe h
  · intro v ho requester cold update purpose slot
    have done : effect (.arrayAnswer o.number true data) d = (portFree d).copyLineDone u :=
      (effect_answer ho data).trans (Device.deliver_copy (d := portFree d) requester cold update _)
    refine ⟨fun first => exec_eq_iff.2 ?_, fun second => exec_eq_iff.2 ?_, fun c hc queue => exec_eq_iff.2 ?_⟩
    · exact done.trans (Device.copyLineDone_first first)
    · exact done.trans ((Device.copyLineDone_format second purpose).trans (Device.formatDurable_eq (d := portFree d) slot))
    · refine (effect_failedAccess ho hc).trans ((Device.deliver_copy (d := failedAccess d c) requester cold update _).trans ?_)
      exact Device.copyWriteFailed_format (d := failedAccess d c) purpose slot queue

end Sys2Proof.Machine

/-!
The journal writer: the rows of Table 3-5 and what a durable OPEN or IMAGE does (O29, O30, O32, O34).
-/
namespace Sys2Proof.Machine

-- One proof at a time: each would otherwise hold a thread of its own.
set_option Elab.async false

/-! ## Distances in the journal -/

theorem Journal.dist_lt {j : Journal} (h : 0 < j.lines) (a b : Nat) : j.dist a b < j.cells :=
  Nat.mod_lt _ (by unfold Journal.cells; omega)

/-- A distance is a difference modulo the journal cells (R41). -/
theorem Journal.dist_eq_emod {j : Journal} (h : 0 < j.lines) (a b : Nat) :
    (j.dist a b : Int) = ((b : Int) - a) % (2 * j.lines) := by
  have below : a % j.cells ≤ b + j.cells := by
    have := Nat.mod_lt a (show 0 < j.cells by unfold Journal.cells; omega)
    omega
  have split : (b : Int) + j.cells - (a : Int) % j.cells = ((b : Int) - a) + j.cells * (1 + (a : Int) / j.cells) := by
    have := Int.mul_ediv_add_emod (a : Int) j.cells
    linarith
  calc (j.dist a b : Int) = ((b : Int) + j.cells - (a : Int) % j.cells) % j.cells := by
        unfold Journal.dist
        push_cast [Nat.cast_sub below]
        rfl
    _ = ((b : Int) - a) % j.cells := by rw [split, Int.add_mul_emod_self_left]
    _ = ((b : Int) - a) % (2 * j.lines) := by simp [Journal.cells]

/-- Free cells against a tail (R55). -/
theorem Journal.cells_sub_dist {j : Journal} (h : 0 < j.lines) (tail : Nat) :
    ((j.cells - j.dist tail j.head : Nat) : Int) = 2 * j.lines - ((j.head : Int) - tail) % (2 * j.lines) := by
  rw [Nat.cast_sub (Journal.dist_lt h _ _).le, Journal.dist_eq_emod h]
  simp [Journal.cells]

theorem Journal.liveTail_both {j : Journal} {a b : TreeStart} (h : j.treeStart = ⟨some a, some b⟩) :
    j.liveTail = if j.dist b.position j.head ≤ j.dist a.position j.head then a else b := by
  simp only [Journal.liveTail, h]

theorem Journal.liveTail_one {j : Journal} {a : TreeStart} (h : j.treeStart = ⟨some a, none⟩ ∨ j.treeStart = ⟨none, some a⟩) :
    j.liveTail = a := by
  rcases h with h | h <;> simp only [Journal.liveTail, h]

theorem Journal.liveTail_none {j : Journal} (h : j.treeStart = ⟨none, none⟩) : j.liveTail = ⟨j.head, j.nextSeq⟩ := by
  simp only [Journal.liveTail, h]

/-! ## The rows of Table 3-5 -/

/-- The command c takes the front item, or the held one again. -/
def TakesFront (d : Device) (c : Instr) : Prop :=
  (c = .takeAppendItem ∧ d.journal.held = none) ∨ (c = .heldItemRetake ∧ d.journal.held = some Hold.over)

section
variable {d : Device} {c : Instr} {i : Item} {behind : List Item}

theorem effect_takesFront (h : TakesFront d c) (queue : d.journal.queue = i :: behind) (append : d.journal.append = none) :
    effect c d = d.applyTable i behind := by
  rcases h with ⟨rfl, held⟩ | ⟨rfl, held⟩
  · change d.takeItem = _
    unfold Device.takeItem
    rw [queue]
    exact if_pos ⟨append, held⟩
  · change d.retakeItem = _
    unfold Device.retakeItem
    rw [queue]
    exact if_pos ⟨append, held⟩

/-- The front item leaves the queue and its requester is told the refusal. -/
def Device.refuseFront (d : Device) (code : RespCode) (i : Item) (behind : List Item) : Device :=
  ({ d with journal := { d.journal with queue := behind, held := none } } : Device).refuseItem code i

theorem Device.applyTable_faulted (h : d.journal.faulted = true) :
    d.applyTable i behind = d.refuseFront .journalFault i behind := if_pos h

section
variable (normal : d.journal.faulted = false)
include normal

theorem Device.applyTable_issues (room : d.journal.need i.record ≤ d.journal.freeAnchored) :
    d.applyTable i behind = d.issueAppend i behind := (if_neg (by simp [normal])).trans (if_pos room)

section
variable (anchored : ¬d.journal.need i.record ≤ d.journal.freeAnchored)
include anchored

theorem Device.applyTable_asks (live : d.journal.need i.record ≤ d.journal.freeLive) (part : d.part ≠ .stopping) :
    d.applyTable i behind = { d with
      journal := { d.journal with held := some .request }
      anchor := { d.anchor with
        writerReq := if d.anchor.writerReq = .none then .pending else d.anchor.writerReq } } := by
  refine (if_neg (by simp [normal])).trans ((if_neg anchored).trans ((if_pos live).trans ((if_pos part).trans ?_)))
  by_cases none : d.anchor.writerReq = .none
  · rw [if_pos none]
    exact if_pos none
  · rw [if_neg none]
    exact if_neg none

theorem Device.applyTable_waits (live : d.journal.need i.record ≤ d.journal.freeLive) (part : d.part = .stopping)
    (update : d.anchor.update ≠ none) :
    d.applyTable i behind = { d with journal := { d.journal with held := some .updateEnd } } :=
  (if_neg (by simp [normal])).trans ((if_neg anchored).trans ((if_pos live).trans ((if_neg (by simp [part])).trans
    (if_pos (Option.isSome_iff_ne_none.2 update)))))

theorem Device.applyTable_halts (live : d.journal.need i.record ≤ d.journal.freeLive) (part : d.part = .stopping)
    (update : d.anchor.update = none) : d.applyTable i behind = d.refuseFront .halted i behind :=
  (if_neg (by simp [normal])).trans ((if_neg anchored).trans ((if_pos live).trans ((if_neg (by simp [part])).trans
    (if_neg (by simp [update])))))

theorem Device.applyTable_full (live : ¬d.journal.need i.record ≤ d.journal.freeLive) :
    d.applyTable i behind = d.refuseFront .journalFull i behind :=
  (if_neg (by simp [normal])).trans ((if_neg anchored).trans (if_neg live))

end

end

end

/-- Settles O29: the row of Table 3-5 with room against the anchored tail. -/
theorem theWriterIssuesAnAppend : Obligations.TheWriterIssuesAnAppend := by
  intro q d c i behind first rest j toEnd pad need distance queue append normal room takes writes
  have hpad : j.padFor i.record = pad := by
    simp only [pad]
    cases i.record <;> rfl
  have room' : j.need i.record ≤ j.freeAnchored := by
    have hneed : j.need i.record = need := by
      simp only [need, ← hpad]
      cases i.record with
      | image line body => simp only [Journal.need, Journal.padFor, Config.journalReserve]; omega
      | openScope => rfl
      | close code => rfl
    rw [hneed]
    exact room
  refine exec_eq_iff.2 ((effect_takesFront takes queue append).trans ((Device.applyTable_issues normal room').trans ?_))
  have writes' : d.journal.appendWrites i = first :: rest := writes
  simp only [Device.issueAppend, writes', Journal.positionFor]
  rw [← hpad]
  rfl

/-! ## Refusals of markers and writes -/

section
variable {d : Device} {i : Item} {behind : List Item} {code : RespCode} {k : Nat} {e : Entry}

/-- The requester of a marker's OPEN is answered (R6). -/
theorem Device.refuseItem_open (source : i.source = .marker) (record : i.record = .openScope)
    (mark : (d.host.get i.port).markIndex = some k) (he : (d.host.get i.port).queue[k]? = some e) :
    d.refuseItem code i = withPort d i.port (answered (d.host.get i.port) k e code 0#512) := by
  simp only [Device.refuseItem, source, record]
  exact Device.answerMark_eq mark he code

/-- The claim change of a write is undone and the write is answered (R32). -/
theorem Device.refuseItem_image {line : Nat} {body : LineData} (source : i.source = .write)
    (record : i.record = .image line body) (place : (d.host.get i.port).lineIndex line = some k)
    (he : (d.host.get i.port).queue[k]? = some e) :
    d.refuseItem code i = { withPort d i.port (answered (d.host.get i.port) k e code 0#512) with
      claims := d.claims.undo line } := by
  simp only [Device.refuseItem, source, record]
  exact Device.answerLine_eq (d := { d with claims := d.claims.undo line }) place he code 0#512

end

/-- Settles O30, by the distances of R55 and the rows of Table 3-5. -/
theorem theWriterHoldsOrRefuses : Obligations.TheWriterHoldsOrRefuses := by
  refine ⟨fun j lines => ?_, fun q p d c i behind k e => ?_⟩
  · intro cells back
    have distance (a : Nat) : (j.dist a j.head : Int) = back a := Journal.dist_eq_emod lines a j.head
    refine ⟨fun a b both => ⟨fun farther => ?_, fun farther => ?_⟩, fun a one => Journal.liveTail_one one,
      Journal.liveTail_none, Journal.cells_sub_dist lines _, Journal.cells_sub_dist lines _, Journal.dist_eq_emod lines _ _⟩
    · rw [← distance, ← distance] at farther
      rw [Journal.liveTail_both both, if_pos (by omega)]
    · rw [← distance, ← distance] at farther
      rw [Journal.liveTail_both both, if_neg (by omega)]
  · intro j h room isOpen isImage refusal queue append port he takes kind
    subst port
    have refuses {code : RespCode} (row : d.applyTable i behind = d.refuseFront code i behind) : refusal code := by
      refine (nexts_exec c q d _).2 ?_
      rw [(effect_takesFront takes queue append).trans row]
      rcases kind with ⟨source, record, mark⟩ | ⟨source, line, body, s, x, record, place, claimed⟩
      · have answer : d.refuseFront code i behind = _ := Device.refuseItem_open (d := {
          d with journal := { d.journal with queue := behind, held := none } }) source record mark he
        rw [answer]
        exact ⟨rfl, rfl, rfl, rfl, rfl, rfl, fun _ => rfl, fun _ _ _ _ write => by simp [source] at write⟩
      · have answer : d.refuseFront code i behind = _ := Device.refuseItem_image (d := {
          d with journal := { d.journal with queue := behind, held := none } }) source record place he
        rw [answer]
        refine ⟨rfl, rfl, rfl, rfl, rfl, rfl, fun marker => absurd marker.1 (by simp [source]), fun line' body' s' x' _ image claimed' => ?_⟩
        obtain ⟨rfl, rfl⟩ : line = line' ∧ body = body' := by simpa using record.symm.trans image
        exact congrArg ClaimTable.slots (ClaimTable.undo_eq claimed')
    have row := effect_takesFront takes queue append
    exact ⟨fun faulted => refuses (Device.applyTable_faulted faulted),
      fun normal anchored live part => exec_eq_iff.2 (row.trans (Device.applyTable_asks normal anchored live part)),
      fun normal anchored live part update =>
        exec_eq_iff.2 (row.trans (Device.applyTable_waits normal anchored live part update)),
      fun normal anchored live part update => refuses (Device.applyTable_halts normal anchored live part update),
      fun normal anchored live => refuses (Device.applyTable_full normal anchored live)⟩

/-! ## Durable records -/

/-- The writer's own change for an OPEN (R50, R53). -/
theorem Journal.afterAppend_open {j : Journal} {a : Append} (record : a.item.record = .openScope) (pad : a.pad = 0) :
    j.afterAppend a = appendedTo j a (j.last.set a.item.port (some a.position))
      (if a.item.level = 1 then j.treeStart.set a.item.port (some ⟨a.position, j.nextSeq⟩) else j.treeStart) := by
  simp [Journal.afterAppend, appendedTo, record, pad, itemLength, Journal.cells]

theorem effect_appendEnds {d : Device} {n : BitVec 4} {o : Outstanding} {a : Append} (h : AppendEnds d n o a)
    (data : LineData) : effect (.arrayAnswer n true data) d =
      (lagChecked (jlowChecked { portFree d with journal := d.journal.afterAppend a })).tellDurable a.item a.position :=
  exec_eq_iff.1 (appendEnds_eq h [] data)

/-- The checks after an append leave everything but the latches and the writer's request (R56, R58). -/
theorem checked_keeps (d : Device) : (lagChecked (jlowChecked d)).host = d.host ∧
    (lagChecked (jlowChecked d)).scope = d.scope ∧ (lagChecked (jlowChecked d)).claims = d.claims ∧
    (lagChecked (jlowChecked d)).part = d.part ∧ (lagChecked (jlowChecked d)).journal = d.journal ∧
    (lagChecked (jlowChecked d)).array = d.array ∧ (lagChecked (jlowChecked d)).counters = d.counters ∧
    (lagChecked (jlowChecked d)).rollback = d.rollback ∧ (lagChecked (jlowChecked d)).link = d.link := by
  obtain ⟨x, hx⟩ := jlowChecked_spec d
  obtain ⟨w, hw⟩ := lagChecked_spec (jlowChecked d)
  rw [hw, hx]
  exact ⟨rfl, rfl, rfl, rfl, rfl, rfl, rfl, rfl, rfl⟩

section
variable {d : Device} {p : Port} {k : Nat} {e : Entry} {i : Item}

theorem Device.openDurable_eq (mark : (d.host.get i.port).markIndex = some k)
    (he : (d.host.get i.port).queue[k]? = some e) (position : Nat) :
    d.openDurable i position =
      let s := d.scope.get i.port
      let pushed : ScopePort :=
        { s with stack := ⟨i.serial, position⟩ :: s.stack, serialCounter := s.serialCounter + 1#16 }
      { withPort d i.port (answered (d.host.get i.port) k e .ok 0#512) with
        scope := d.scope.set i.port
          (if i.level = 1 then
            { pushed with age := 0, scopeLimit := s.limit, scopeAction := s.action, expired := false,
                          running := s.pendingAbandon.isNone && decide (d.part ≠ .stopping) }
           else pushed) } := by
  unfold Device.openDurable
  by_cases level : i.level = 1
  · simp only [level, if_true]
    rw [Device.answerMark_eq (i := k) (e := e) (by simpa using mark) (by simpa using he)]
    simp only [withPort, Device.onScope, PerPort.get_set_self, PerPort.set_set]
    rfl
  · simp only [level, if_false]
    rw [Device.answerMark_eq (i := k) (e := e) (by simpa using mark) (by simpa using he)]
    simp only [withPort, Device.onScope]

/-- A durable IMAGE of a begun write (R31, R85). -/
theorem Device.imageDurable_eq {line level position : Nat} {slot : Fin 256} {x : Claim}
    (place : (d.host.get p).lineIndex line = some k) (he : (d.host.get p).queue[k]? = some e)
    (claimed : ClaimedAt d.claims line slot x) : d.imageDurable p level line position =
      let c := d.counters.port.get p
      { withPort d p (reached (d.host.get p) k e .target e.level) with
        claims := ⟨d.claims.slots.set slot
          (some { x with images := putImage x.images level (some position), recording := false })⟩
        counters := { d.counters with port := d.counters.port.set p { c with images := counted c.images } }
        array := { d.array with
          hostReq := d.array.hostReq.set p (d.array.hostReq.get p ++ [writeAccess e.req]) } } := by
  unfold Device.imageDurable
  rw [ClaimTable.setImage_eq claimed]
  simp only [Device.countImage, Device.countPort, place, he]
  let t := ({ d with claims := ⟨d.claims.slots.set slot
    (some { x with images := putImage x.images level (some position), recording := false })⟩ } : Device).countImage p
  exact congrArg (fun t : Device => t.askHost p (writeAccess e.req))
    (Device.stageLine_eq (d := t) (i := k) (e := e) place he .target)

end

/-- Settles O32: the durable OPEN is told to its marker once the checks are made. -/
theorem openRecordDurable : Obligations.OpenRecordDurable := by
  intro q p d n data o a k e j h s pushed ends source record port pad mark he
  subst port
  rw [exec_eq_iff, effect_appendEnds ends data, Journal.afterAppend_open record pad]
  obtain ⟨host, scope, -⟩ := checked_keeps { portFree d with
    journal := appendedTo j a (j.last.set a.item.port (some a.position))
      (if a.item.level = 1 then j.treeStart.set a.item.port (some ⟨a.position, j.nextSeq⟩) else j.treeStart) }
  have opens (t : Device) (host : t.host = d.host) (scope : t.scope = d.scope) : t.tellDurable a.item a.position =
      { withPort t a.item.port (answered h k e .ok 0#512) with
        scope := t.scope.set a.item.port
          (if a.item.level = 1 then
            { pushed with age := 0, scopeLimit := s.limit, scopeAction := s.action, expired := false,
                          running := s.pendingAbandon.isNone && decide (t.part ≠ .stopping) }
           else pushed) } := by
    simp only [Device.tellDurable, source, record]
    rw [Device.openDurable_eq (by rwa [host]) (by rwa [host]), host, scope]
  exact opens _ host scope

/-- Settles O34: the durable IMAGE sets the image and then asks for the target write. -/
theorem imageRecordDurable : Obligations.ImageRecordDurable := by
  intro q p d n data body o a k line e slot x j h c r access ends source record port place he claimed
  subst port
  have write : access = writeAccess r := by
    have line : reqLine r = line := by
      obtain ⟨e', he', -, -, hline⟩ := HostPort.lineIndex_spec place
      cases he.symm.trans he'
      exact hline
    rw [writeAccess_eq, line]
  rw [exec_eq_iff, effect_appendEnds ends data, Journal.afterAppend_eq (by simp [record])]
  obtain ⟨host, -, claims, -, -, array, counters, -⟩ := checked_keeps { portFree d with
    journal := appendedTo j a (j.last.set a.item.port (some a.position)) j.treeStart }
  have sets (t : Device) (host : t.host = d.host) (claims : t.claims = d.claims) (counters : t.counters = d.counters) :
      t.tellDurable a.item a.position =
      { withPort t a.item.port (reached h k e .target e.level) with
        claims := ⟨t.claims.slots.set slot
          (some { x with images := putImage x.images a.item.level (some a.position), recording := false })⟩
        counters := { t.counters with port := t.counters.port.set a.item.port { c with images := counted c.images } }
        array := { t.array with
          hostReq := t.array.hostReq.set a.item.port (t.array.hostReq.get a.item.port ++ [access]) } } := by
    have hh : t.host.get a.item.port = h := by rw [host]
    have hc : t.counters.port.get a.item.port = c := by rw [counters]
    simp only [Device.tellDurable, source, record]
    rw [Device.imageDurable_eq (by rwa [host]) (by rwa [host]) (by rwa [claims]), hh, hc, write]
  exact sets _ host claims counters

end Sys2Proof.Machine

/-!
Rollback jobs: how they end, and what a durable CLOSE record does (O33).
-/
namespace Sys2Proof.Machine

-- One proof at a time: each would otherwise hold a thread of its own.
set_option Elab.async false

/-! ## The lag check commutes with what it does not read -/

/-- The writer's request after the lag check (R56). -/
def lagRequest (d : Device) : UpdateReq :=
  if d.part = .running ∧ d.journal.faulted = false ∧ 2 * d.journal.lines ≤ 8 * d.journal.lag ∧ d.anchor.writerReq = .none
  then .pending else d.anchor.writerReq

theorem lagChecked_eq (d : Device) :
    lagChecked d = { d with anchor := { d.anchor with writerReq := lagRequest d } } := by
  unfold lagChecked lagRequest
  split <;> rfl

theorem lagChecked_scope (d : Device) (scope : PerPort ScopePort) :
    lagChecked { d with scope := scope } = { lagChecked d with scope := scope } := by
  rw [lagChecked_eq, lagChecked_eq]
  rfl

theorem lagChecked_rollback (d : Device) (rollback : RollbackEngine) :
    lagChecked { d with rollback := rollback } = { lagChecked d with rollback := rollback } := by
  rw [lagChecked_eq, lagChecked_eq]
  rfl

/-- The lag check leaves everything but the writer's request (R56). -/
theorem lagChecked_keeps (d : Device) : (lagChecked d).host = d.host ∧ (lagChecked d).scope = d.scope ∧
    (lagChecked d).part = d.part ∧ (lagChecked d).counters = d.counters ∧ (lagChecked d).rollback = d.rollback ∧
    (lagChecked d).link = d.link := by
  obtain ⟨w, hw⟩ := lagChecked_spec d
  rw [hw]
  exact ⟨rfl, rfl, rfl, rfl, rfl, rfl⟩

section
variable {d : Device} {p : Port}

/-- At depth 0 the tree start is cleared and the lag checked (R53, R56). -/
theorem Device.recompute_empty (h : (d.scope.get p).stack = []) : d.recompute p =
    lagChecked { d with journal := { d.journal with treeStart := d.journal.treeStart.set p none } } := by
  rw [Device.recompute, if_pos h, Device.lagCheck_eq]

/-! ## Markers -/

section
variable {k : Nat} {e : Entry} (mark : (d.host.get p).markIndex = some k) (he : (d.host.get p).queue[k]? = some e)
include mark he

theorem Device.mergeDurable_eq (level : Nat) : d.mergeDurable p level =
    { withPort d p (answered (d.host.get p) k e .ok 0#512) with
      claims := ⟨d.claims.slots.map fun x => x.map (mergeClaim p level)⟩
      scope := d.scope.set p { d.scope.get p with stack := (d.scope.get p).stack.tail } } := by
  let t := ({ d with claims := d.claims.merge p level } : Device).onScope p fun s => { s with stack := s.stack.tail }
  exact Device.answerMark_eq (d := t) mark he .ok

theorem Device.commitDurable_eq (one : (d.scope.get p).stack.length = 1) : d.commitDurable p =
    let t := lagChecked { d with
      claims := ⟨d.claims.slots.map fun x => x.bind fun c => if c.port = p then none else some c⟩
      scope := d.scope.set p { d.scope.get p with stack := [] }
      journal := { d.journal with treeStart := d.journal.treeStart.set p none } }
    let c := d.counters.port.get p
    { withPort t p (answered (d.host.get p) k e .ok 0#512) with
      counters := { t.counters with port := t.counters.port.set p { c with commits := counted c.commits } } } := by
  have popped : (d.scope.get p).stack.tail = [] := List.length_eq_zero_iff.1 (by simp [one])
  let t : Device := { d with
    claims := d.claims.freeAll p
    scope := d.scope.set p { d.scope.get p with stack := [] } }
  have commits : d.commitDurable p = ((t.recompute p).countCommit p).answerMark p .ok := by
    simp only [Device.commitDurable, Device.onScope, popped]
    rfl
  rw [commits, Device.recompute_empty (by simp [t]), lagChecked_eq, lagChecked_eq]
  refine Eq.trans (Device.answerMark_eq (i := k) (e := e) ?_ ?_ .ok) ?_
  · exact mark
  · exact he
  · rfl

end

/-! ## The end of a rollback job -/

theorem Device.dropJob_eq {j : Job} {others : List Job} (jobs : d.rollback.jobs = j :: others)
    (alone : ∀ x ∈ others, x.port ≠ j.port) {j' : Job} (port : j'.port = j.port) (phase : j'.phase ≠ .waiting) :
    d.dropJob j' = { d with rollback := ⟨others, none⟩ } := by
  have rest : d.rollback.jobs.filter (fun x => x.port != j'.port) = others := by
    rw [jobs, port, List.filter_cons_of_neg (by simp), List.filter_eq_self]
    simpa using alone
  rw [Device.dropJob, rest, if_neg phase]

section
variable {j : Job}

theorem Device.endJob_level_complete {l : Nat} (kind : j.kind = .level l) :
    d.endJob j .complete = (d.dropJob j).hostAbandonDone j.port l := by
  simp only [Device.endJob, kind]

theorem Device.endJob_level_stopped {l : Nat} (kind : j.kind = .level l) :
    d.endJob j .stopped = (d.dropJob j).answerMark j.port .halted := by
  simp only [Device.endJob, kind]

theorem Device.endJob_all_complete (kind : j.kind = .all) :
    d.endJob j .complete = (d.dropJob j).forcedAbandonDone j.port j.restored := by
  simp only [Device.endJob, kind]

theorem Device.endJob_all_stopped (kind : j.kind = .all) : d.endJob j .stopped = d.dropJob j := by
  simp only [Device.endJob, kind]

/-- A failed job "level L" leaves its port WEDGED and its ABANDON answered (R13, R11). -/
theorem Device.endJob_level_failed {l : Nat} (kind : j.kind = .level l) :
    d.endJob j .restoreFailed = ((d.dropJob j).wedge j.port).answerMark j.port .media ∧
    d.endJob j .appendFailed = ((d.dropJob j).wedge j.port).answerMark j.port .journalFault := by
  simp only [Device.endJob, kind, and_self]

/-- A failed job "all levels" leaves its port WEDGED and a FORCE ABANDON answered (R13, R21). -/
theorem Device.endJob_all_failed (kind : j.kind = .all) {o : JobOutcome} (failed : o = .restoreFailed ∨ o = .appendFailed) :
    d.endJob j o = ((d.dropJob j).wedge j.port).forceReply j.port .media (d.depth j.port) j.restored := by
  rcases failed with rfl | rfl <;> simp only [Device.endJob, kind] <;> rfl

end

/-- A noted reset keeps the port RESETTING while its line or an abandon holds it (R14). -/
def resetHeld (h : HostPort) (s : ScopePort) : Bool := s.resetNoted && (h.hrst || s.pendingAbandon.isSome)

/-- A port leaves its last job (R11, R14, R19). -/
theorem Device.leaveJob_eq (jobs : ∀ j ∈ d.rollback.jobs, j.port ≠ p) : d.leaveJob p = { d with
    scope := d.scope.set p { d.scope.get p with
      state := if resetHeld (d.host.get p) (d.scope.get p) then .resetting else .active
      resetNoted := resetHeld (d.host.get p) (d.scope.get p) } } := by
  unfold Device.leaveJob resetHeld
  by_cases noted : (d.scope.get p).resetNoted = true
  · rw [if_pos noted]
    by_cases held : (d.host.get p).hrst = false ∧ (d.scope.get p).pendingAbandon = none
    · refine Eq.trans (Device.settle_freed ?_ ?_ held.1 jobs) ?_
      · simp
      · simpa using held.2
      · simp [Device.onScope, noted, held.1, held.2]
    · have stays : ((d.host.get p).hrst || (d.scope.get p).pendingAbandon.isSome) = true := by
        rw [Bool.or_eq_true, Option.isSome_iff_ne_none]
        by_contra h
        rw [not_or, Bool.not_eq_true, not_not] at h
        exact held h
      have same : (d.onScope p fun s => { s with state := .resetting }).settle p =
          d.onScope p fun s => { s with state := .resetting } :=
        if_neg fun h => held ⟨h.2.1, by simpa using h.2.2.1⟩
      rw [same]
      simp [Device.onScope, noted, stays]
  · rw [if_neg noted]
    have unnoted : (d.scope.get p).resetNoted = false := by simpa using noted
    simp [Device.onScope, unnoted]

/-- Port p leaves its job with the scope unit's state s (R14). -/
def leftJob (d : Device) (p : Port) (s : ScopePort) : Device := { d with
  scope := d.scope.set p { s with
    state := if resetHeld (d.host.get p) s then .resetting else .active
    resetNoted := resetHeld (d.host.get p) s } }

/-- A host abandon of level 1 is complete (R11, R53). -/
theorem Device.hostAbandonDone_last {k : Nat} {e : Entry} (mark : (d.host.get p).markIndex = some k)
    (he : (d.host.get p).queue[k]? = some e) (jobs : ∀ j ∈ d.rollback.jobs, j.port ≠ p)
    (one : (d.scope.get p).stack.length = 1) : d.hostAbandonDone p 1 =
      withPort (leftJob (lagChecked { d with
        journal := { d.journal with treeStart := d.journal.treeStart.set p none } }) p { d.scope.get p with stack := [] })
        p (answered (d.host.get p) k e .ok 0#512) := by
  have popped : (d.scope.get p).stack.tail = [] := List.length_eq_zero_iff.1 (by simp [one])
  let t : Device := { d with scope := d.scope.set p { d.scope.get p with stack := [] } }
  have done : d.hostAbandonDone p 1 = ((if ((t.recompute p).scope.get p).resetNoted ∧ 1 ≤ (t.recompute p).depth p then
      (t.recompute p).takeForced p .portReset else t.recompute p).leaveJob p).answerMark p .ok := by
    simp only [Device.hostAbandonDone, Device.onScope, popped]
    rfl
  have empty : (t.scope.get p).stack = [] := by simp [t]
  rw [done, Device.recompute_empty empty, lagChecked_eq, lagChecked_eq, if_neg, Device.leaveJob_eq]
  · refine Eq.trans (Device.answerMark_eq (i := k) (e := e) ?_ ?_ .ok) ?_
    · exact mark
    · exact he
    · simp [t, leftJob, withPort]
      rfl
  · exact jobs
  · simp [Device.depth, t]

/-- A noted reset takes a forced abandon PORTRESET where scopes remain (R20). -/
def resetTaken (d : Device) (s : ScopePort) : Bool :=
  s.resetNoted && decide (d.part = .running) && s.pendingAbandon.isNone

/-- The scope unit's state after a host abandon above level 1 (R11, R20). -/
def popped (d : Device) (s : ScopePort) : ScopePort := { s with
  stack := s.stack.tail
  pendingAbandon := if resetTaken d s then some .portReset else s.pendingAbandon
  running := s.running && !resetTaken d s }

/-- A host abandon above level 1 is complete (R11, R20). -/
theorem Device.hostAbandonDone_inner {k level : Nat} {e : Entry} (mark : (d.host.get p).markIndex = some k)
    (he : (d.host.get p).queue[k]? = some e) (jobs : ∀ j ∈ d.rollback.jobs, j.port ≠ p)
    (state : (d.scope.get p).state ≠ .wedged) (inner : level ≠ 1) (more : 2 ≤ (d.scope.get p).stack.length) :
    d.hostAbandonDone p level = withPort (leftJob d p (popped d (d.scope.get p))) p
      (answered (d.host.get p) k e .ok 0#512) := by
  let t : Device := d.onScope p fun s => { s with stack := s.stack.tail }
  have taken : (if (t.scope.get p).resetNoted ∧ 1 ≤ t.depth p then t.takeForced p .portReset else t) =
      { d with scope := d.scope.set p (popped d (d.scope.get p)) } := by
    by_cases takes : resetTaken d (d.scope.get p) = true
    · obtain ⟨⟨noted, running⟩, pending⟩ : ((d.scope.get p).resetNoted = true ∧ d.part = .running) ∧
          (d.scope.get p).pendingAbandon = none := by simpa [resetTaken] using takes
      rw [if_pos ⟨by simpa [t] using noted, by simp [t, Device.depth]; omega⟩,
        Device.takeForced_eq (d := t) running (by simpa [t] using state) (by simpa [t] using pending)
          fun j hj port => absurd port (jobs j hj)]
      simp [t, Device.onScope, popped, takes]
    · have stays : (if (t.scope.get p).resetNoted ∧ 1 ≤ t.depth p then t.takeForced p .portReset else t) = t := by
        split
        · next noted =>
          refine if_neg fun ⟨running, _, pending, _⟩ => takes ?_
          have noted : (d.scope.get p).resetNoted = true := by simpa [t] using noted.1
          have pending : (d.scope.get p).pendingAbandon = none := by simpa [t] using pending
          have running : d.part = .running := running
          simp [resetTaken, noted, running, pending]
        · rfl
      rw [stays]
      simp [t, Device.onScope, popped, takes]
  have done : d.hostAbandonDone p level =
      ((if (t.scope.get p).resetNoted ∧ 1 ≤ t.depth p then t.takeForced p .portReset else t).leaveJob p).answerMark p .ok := by
    simp only [Device.hostAbandonDone, if_neg inner]
    rfl
  rw [done, taken, Device.leaveJob_eq]
  · refine Eq.trans (Device.answerMark_eq (i := k) (e := e) ?_ ?_ .ok) ?_
    · exact mark
    · exact he
    · simp [leftJob, withPort]
  · exact jobs

/-- A job "all levels" is complete (R19, R21). -/
theorem Device.forcedAbandonDone_eq (jobs : ∀ j ∈ d.rollback.jobs, j.port ≠ p) (lines : Nat) :
    d.forcedAbandonDone p lines =
      { leftJob (lagChecked { d with journal := { d.journal with treeStart := d.journal.treeStart.set p none } }) p
          { d.scope.get p with stack := [] } with
        link := toldOf d.link (.force p) .done (forceCounts (d.scope.get p).stack.length lines) } := by
  let t : Device := { d with scope := d.scope.set p { d.scope.get p with stack := [] } }
  have empty : (t.scope.get p).stack = [] := by simp [t]
  have done : d.forcedAbandonDone p lines = ((t.recompute p).leaveJob p).forceReply p .done (d.depth p) lines := rfl
  rw [done, Device.recompute_empty empty, lagChecked_eq, lagChecked_eq, Device.leaveJob_eq, Device.forceReply_eq]
  · simp [t, leftJob, Device.depth]
    rfl
  · exact jobs

end

/-! ## A durable CLOSE record -/

theorem serialAt_eq {stack : List ScopeEntry} {level : Nat} (low : 1 ≤ level) (high : level ≤ stack.length) :
    ∃ e, stack[stack.length - level]? = some e ∧ serialAt stack level = e.serial := by
  have place : stack.reverse[level - 1]? = stack[stack.length - level]? := by
    rw [List.getElem?_reverse (by omega)]
    congr 1
    omega
  obtain ⟨e, he⟩ : ∃ e, stack[stack.length - level]? = some e := ⟨_, List.getElem?_eq_getElem (by omega)⟩
  exact ⟨e, he, by simp [serialAt, scopeAt, place, he]⟩

section
variable {d : Device} {i : Item} {position : Nat}

theorem Device.tellDurable_committed (source : i.source = .marker) (record : i.record = .close .committed) :
    d.tellDurable i position = d.commitDurable i.port := by
  simp [Device.tellDurable, source, record]

variable {job : Job} {others : List Job}

theorem Device.jobOf_head (jobs : d.rollback.jobs = job :: others) {p : Port} (port : job.port = p) :
    d.jobOf p = some job := by
  simp [Device.jobOf, jobs, port]

section
variable (source : i.source = .rollback) (jobs : d.rollback.jobs = job :: others) (port : job.port = i.port)
include source jobs port

theorem Device.tellDurable_level {level : Nat} (kind : job.kind = .level level) :
    d.tellDurable i position = d.endJob job .complete := by
  simp only [Device.tellDurable, source, Device.rollbackDurable, Device.jobOf_head jobs port, kind]

theorem Device.tellDurable_all (kind : job.kind = .all) : d.tellDurable i position =
    if i.level ≤ 1 then d.endJob { job with closed := job.closed + 1 } .complete
    else if d.part = .stopping then d.endJob { job with closed := job.closed + 1 } .stopped
    else (d.setJob { job with closed := job.closed + 1 }).enqueue
      (d.jobClose { job with closed := job.closed + 1 } (i.level - 1)) := by
  simp only [Device.tellDurable, source, Device.rollbackDurable, Device.jobOf_head jobs port, kind]

end

theorem Device.setJob_eq (jobs : d.rollback.jobs = job :: others) (alone : ∀ x ∈ others, x.port ≠ job.port) {j : Job}
    (port : j.port = job.port) : d.setJob j = { d with rollback := { d.rollback with jobs := j :: others } } := by
  have rest : others.map (fun x => if x.port = j.port then j else x) = others := by
    conv_rhs => rw [← List.map_id others]
    exact List.map_congr_left fun x hx => if_neg (by rw [port]; exact alone x hx)
  rw [Device.setJob, jobs, List.map_cons, rest, if_pos port.symm]

end

/-- Settles O33, by the requester of the record and the level it closes. -/
theorem closeRecordDurable : Obligations.CloseRecordDurable := by
  intro q p d n data o a j h s level checked answers ends port pad
  subst port
  have tells (record : a.item.record ≠ .openScope) {t : Device} (ht : checked.tellDurable a.item a.position = t) :
      answers t := by
    refine exec_eq_iff.2 ((effect_appendEnds ends data).trans ?_)
    rw [Journal.afterAppend_eq record]
    exact ht
  obtain ⟨host, scope, claims, part, journal, -, counters, rollback, link⟩ : checked.host = d.host ∧ checked.scope = d.scope ∧
      checked.claims = d.claims ∧ checked.part = d.part ∧
      checked.journal = appendedTo j a (j.last.set a.item.port (some a.position)) j.treeStart ∧ _ ∧
      checked.counters = d.counters ∧ checked.rollback = d.rollback ∧ checked.link = d.link := checked_keeps _
  have tree : checked.journal.treeStart = j.treeStart := by rw [journal]; rfl
  clear_value checked
  refine ⟨fun k e source mark he => ?_, fun job others source record jobs port alone closing state => ?_⟩
  · have mark' : (checked.host.get a.item.port).markIndex = some k := by rwa [host]
    have he' : (checked.host.get a.item.port).queue[k]? = some e := by rwa [host]
    refine ⟨fun record => tells (by simp [record]) ?_, fun record one => tells (by simp [record]) ?_⟩
    · rw [Device.tellDurable_merged _ source record, Device.mergeDurable_eq mark' he']
      simp only [host, claims, scope]
      rfl
    · rw [Device.tellDurable_committed source record, Device.commitDurable_eq mark' he' (by rwa [scope])]
      simp only [host, claims, scope, tree, counters]
      rfl
  · intro cleared ended portReset
    have recorded : a.item.record ≠ .openScope := by simp [record]
    have jobs' : checked.rollback.jobs = job :: others := by rw [rollback, jobs]
    have alone' : ∀ x ∈ others, x.port ≠ job.port := by rwa [port]
    have phase : job.phase ≠ .waiting := by simp [closing]
    have unwedged : s.state ≠ .wedged := by rcases state with h | h <;> simp [h]
    let t : Device := { checked with rollback := ⟨others, none⟩ }
    have drops {job' : Job} (port' : job'.port = job.port) (phase' : job'.phase = job.phase) : checked.dropJob job' = t :=
      Device.dropJob_eq jobs' alone' port' (by rwa [phase'])
    have clears : lagChecked { t with journal := { t.journal with treeStart := t.journal.treeStart.set a.item.port none } } =
        { cleared with rollback := ⟨others, none⟩ } := by
      simp only [cleared, ← tree]
      exact lagChecked_rollback { checked with journal := { checked.journal with
        treeStart := checked.journal.treeStart.set a.item.port none } } ⟨others, none⟩
    have line : (t.host.get a.item.port) = h :=
      congrArg (fun x : PerPort HostPort => x.get a.item.port) host
    have cline : cleared.host.get a.item.port = h :=
      congrArg (fun x : PerPort HostPort => x.get a.item.port) ((lagChecked_keeps _).1.trans host)
    have tlink : t.link = d.link := link
    have takes : resetTaken t s = portReset :=
      congrArg (fun part : PartState => s.resetNoted && decide (part = .running) && s.pendingAbandon.isNone) part
    have stack : t.scope.get a.item.port = s :=
      congrArg (fun x : PerPort ScopePort => x.get a.item.port) scope
    refine ⟨fun k e kind depth mark he => ?_, fun kind => ?_⟩
    · have completes : checked.tellDurable a.item a.position = t.hostAbandonDone a.item.port level := by
        rw [Device.tellDurable_level source jobs' port kind, Device.endJob_level_complete kind, drops rfl rfl, port]
      have mark' : (t.host.get a.item.port).markIndex = some k := by rwa [line]
      have he' : (t.host.get a.item.port).queue[k]? = some e := by rwa [line]
      refine ⟨fun one => tells recorded (completes.trans ?_), fun inner => tells recorded (completes.trans ?_)⟩
      · rw [one, Device.hostAbandonDone_last mark' he' alone (by rw [stack, depth, one]), clears, line, stack]
        simp only [leftJob, cline]
        rfl
      · rw [Device.hostAbandonDone_inner mark' he' alone (by rwa [stack]) (by omega) (by rw [stack, depth]; exact inner), line, stack]
        simp only [leftJob, line, popped, takes]
        rfl
    · let counted : Job := { job with closed := job.closed + 1 }
      have taken := Device.tellDurable_all (position := a.position) source jobs' port kind
      refine ⟨fun one => tells recorded (taken.trans ?_), fun inner stopping => tells recorded (taken.trans ?_),
        fun inner open' part' => ?_⟩
      · rw [if_pos (show a.item.level ≤ 1 by omega), Device.endJob_all_complete (j := counted) kind, drops (job' := counted) rfl rfl,
          show counted.port = a.item.port from port, Device.forcedAbandonDone_eq alone, clears, stack]
        simp only [leftJob, cline, tlink]
        rfl
      · rw [if_neg (show ¬a.item.level ≤ 1 by omega), if_pos (by rwa [part]), Device.endJob_all_stopped (j := counted) kind, drops (job' := counted) rfl rfl]
      · obtain ⟨e, he, serial⟩ := serialAt_eq (stack := s.stack) (level := level - 1) (by omega) (by omega)
        refine ⟨e, he, tells recorded (taken.trans ?_)⟩
        rw [if_neg (show ¬a.item.level ≤ 1 by omega), if_neg (by rwa [part]), Device.setJob_eq (j := counted) jobs' alone' rfl]
        simp only [Device.enqueue, Device.jobClose, counted, port, scope, rollback]
        rw [show serialAt (d.scope.get a.item.port).stack (a.item.level - 1) = e.serial from serial]

end Sys2Proof.Machine

/-!
The rollback engine: searching the claim table, restoring a line, and the failures of a job (O39, O40).
-/
namespace Sys2Proof.Machine

-- One proof at a time: each would otherwise hold a thread of its own.
set_option Elab.async false

/-! ## What a job restores -/

/-- A job restores the entry: of its port, with an image at its level, or any image (R99, R100). -/
def JobWants (j : Job) (x : Claim) : Prop := x.port = j.port ∧
  (match j.kind with
    | .level l => imageAt x.images l ≠ none
    | .all => x.images ≠ ⟨none, none, none, none⟩)

theorem lowestImage_isSome_iff (m : Images) : (lowestImage m).isSome = true ↔ m ≠ ⟨none, none, none, none⟩ := by
  obtain ⟨l1, l2, l3, l4⟩ := m
  cases l1 <;> cases l2 <;> cases l3 <;> cases l4 <;> simp [lowestImage]

theorem jobWants_iff (j : Job) (x : Claim) : jobWants j x = true ↔ JobWants j x := by
  unfold jobWants JobWants
  cases j.kind with
  | level l => simp [Option.isSome_iff_ne_none]
  | all => simp [lowestImage_isSome_iff]

theorem lowestImage_eq (m : Images) : lowestImage m = (m.l1.or m.l2).or (m.l3.or m.l4) := by
  rw [lowestImage, Option.or_assoc]

/-- The image a job restores an entry from (R99, R100). -/
theorem jobImage_eq (j : Job) (c : Claim) : jobImage j c = match j.kind with
    | .level l => imageAt c.images l
    | .all => (c.images.l1.or c.images.l2).or (c.images.l3.or c.images.l4) := by
  unfold jobImage
  cases j.kind with
  | level l => rfl
  | all => exact lowestImage_eq _

/-! ## The search -/

section
variable {d : Device} {j job : Job} {others : List Job}

theorem Device.nextEntry_some {slot : Fin 256} {c : Claim} {cell : Nat} (entry : d.claims.slots[slot] = some c)
    (wanted : JobWants j c) (from_ : j.cursor ≤ slot.val) (image : jobImage j c = some cell)
    (first : ∀ k : Fin 256, k < slot → j.cursor ≤ k.val → ∀ x, d.claims.slots[k] = some x → ¬JobWants j x) :
    d.nextEntry j = some (slot, c.line, cell) := by
  have found : d.claims.find j.cursor (jobWants j) = some slot := by
    refine (ClaimTable.find_eq_some_iff ..).2 ⟨from_, ⟨c, entry, (jobWants_iff j c).2 wanted⟩, fun k lt ge x hx => ?_⟩
    exact Bool.eq_false_iff.2 fun h => first k lt ge x hx ((jobWants_iff j x).1 h)
  simp only [Device.nextEntry, found, entry, image]

theorem Device.nextEntry_none
    (none : ∀ k : Fin 256, j.cursor ≤ k.val → ∀ x, d.claims.slots[k] = some x → ¬JobWants j x) :
    d.nextEntry j = .none := by
  have found : d.claims.find j.cursor (jobWants j) = .none :=
    (ClaimTable.find_eq_none_iff ..).2 fun k ge x hx =>
      Bool.eq_false_iff.2 fun h => none k ge x hx ((jobWants_iff j x).1 h)
  simp only [Device.nextEntry, found]

theorem Device.search_faulted (h : d.journal.faulted = true) : d.search j = d.endJob j .appendFailed := if_pos h

/-- The level of a job's first CLOSE record (R99, R100). -/
def closingLevel (d : Device) (j : Job) : Nat :=
  match j.kind with
  | .level l => l
  | .all => (d.scope.get j.port).stack.length

theorem Device.startClosing_eq (d : Device) (j : Job) : d.startClosing j =
    if closingLevel d j = 0 then d.endJob { j with phase := .closing } .complete
    else (d.setJob { j with phase := .closing }).enqueue (d.jobClose j (closingLevel d j)) := by
  unfold Device.startClosing closingLevel
  cases j.kind <;> rfl

section
variable (normal : d.journal.faulted = false) (jobs : d.rollback.jobs = job :: others)
  (alone : ∀ x ∈ others, x.port ≠ job.port) (port : j.port = job.port)
include normal jobs alone port

/-- An entry named is the line in hand, and its record's first line is asked for (R101). -/
theorem Device.search_found {slot : Fin 256} {line cell : Nat} (next : d.nextEntry j = some (slot, line, cell)) :
    d.search j = { d with
      rollback := ⟨j :: others, some ⟨slot, line, cell, .readHeader⟩⟩
      array := { d.array with rollbackReq := some (.readLine (d.journal.base + cell / 2)) } } := by
  unfold Device.search
  rw [if_neg (by simp [normal]), next]
  simp only [Device.setJob_eq jobs alone port]
  rfl

/-- With no entry left the first CLOSE record is handed over (R103). -/
theorem Device.search_closes (next : d.nextEntry j = none) (low : 1 ≤ closingLevel d j)
    (high : closingLevel d j ≤ (d.scope.get j.port).stack.length) :
    ∃ e, (d.scope.get j.port).stack[(d.scope.get j.port).stack.length - closingLevel d j]? = some e ∧
      d.search j = { d with
        rollback := { d.rollback with jobs := { j with phase := .closing } :: others }
        journal := { d.journal with
          queue := d.journal.queue ++ [⟨.rollback, j.port, closingLevel d j, e.serial, .close j.cause⟩] } } := by
  obtain ⟨e, he, serial⟩ := serialAt_eq low high
  refine ⟨e, he, ?_⟩
  have closes : d.search j = d.startClosing j := by
    unfold Device.search
    rw [if_neg (by simp [normal]), next]
  rw [closes, Device.startClosing_eq, if_neg (by omega),
    Device.setJob_eq (j := { j with phase := .closing }) jobs alone port]
  simp only [Device.enqueue, Device.jobClose, serial]

end

/-! ## A job that fails -/

/-- How a failed job is answered to a host ABANDON (R11). -/
def failureCode : JobOutcome → RespCode
  | .restoreFailed => .media
  | .appendFailed => .journalFault
  | .complete => .ok
  | .stopped => .halted

/-- What a job of port p leaves when it fails (R13, R11, R21). -/
structure JobFailed (d : Device) (j : Job) (others : List Job) (code : RespCode) (t : Device) : Prop where
  rollback : t.rollback = ⟨others, none⟩
  claims : t.claims = d.claims
  array : t.array = d.array
  journal : t.journal = d.journal
  scope : t.scope = d.scope.set j.port
    { d.scope.get j.port with state := .wedged, running := false, resetNoted := false }
  alerts : t.alerts = { d.alerts with latches := d.alerts.latches ||| 1#10 <<< latchBit (.wedged j.port) }
  all : j.kind = .all → t.host = d.host ∧
    t.link = toldOf d.link (.force j.port) .media (forceCounts (d.scope.get j.port).stack.length j.restored)
  level : ∀ l k e, j.kind = .level l → (d.host.get j.port).markIndex = some k →
    (d.host.get j.port).queue[k]? = some e →
    t.link = d.link ∧ t.host = d.host.set j.port (answered (d.host.get j.port) k e code 0#512)

theorem Device.endJob_failed (jobs : d.rollback.jobs = job :: others) (alone : ∀ x ∈ others, x.port ≠ job.port)
    (port : j.port = job.port) (phase : j.phase ≠ .waiting) {o : JobOutcome}
    (failed : o = .restoreFailed ∨ o = .appendFailed) : JobFailed d j others (failureCode o) (d.endJob j o) := by
  have drops := Device.dropJob_eq jobs alone port phase
  cases kind : j.kind with
  | level l =>
    have ends : d.endJob j o = ((d.dropJob j).wedge j.port).answerMark j.port (failureCode o) := by
      rcases failed with rfl | rfl
      · exact (Device.endJob_level_failed kind).1
      · exact (Device.endJob_level_failed kind).2
    rw [ends, drops]
    refine ⟨rfl, rfl, rfl, rfl, rfl, rfl, fun all => by simp [kind] at all, fun l k e _ mark he => ⟨rfl, ?_⟩⟩
    exact congrArg Device.host (Device.answerMark_eq
      (d := ({ d with rollback := ⟨others, none⟩ } : Device).wedge j.port) mark he (failureCode o))
  | all =>
    rw [Device.endJob_all_failed kind failed, drops, Device.forceReply_eq]
    exact ⟨rfl, rfl, rfl, rfl, rfl, rfl, fun _ => ⟨rfl, rfl⟩, fun l k e level => by simp [kind] at level⟩

end

/-- Settles O39, by the journal's state and what the search finds. -/
theorem rollbackJobIsTaken : Obligations.RollbackJobIsTaken := by
  intro q d j others slot c cell s wanted image level jobs alone waiting running
  let taken : Job := { j with phase := .restoring }
  have takes : effect .rollbackJobTake d = d.search taken := by
    change d.takeJob = _
    unfold Device.takeJob
    rw [jobs]
    exact if_pos ⟨waiting, running⟩
  refine ⟨fun normal entry want from_ himage first => exec_eq_iff.2 (takes.trans ?_), fun normal none low high => ?_,
    fun faulted => (nexts_exec ..).2 ?_⟩
  · exact Device.search_found (j := taken) normal jobs alone rfl
      (Device.nextEntry_some (j := taken) entry want from_ ((jobImage_eq ..).trans himage) first)
  · obtain ⟨e, he, closes⟩ := Device.search_closes (j := taken) normal jobs alone rfl
      (Device.nextEntry_none none) low high
    exact ⟨e, he, exec_eq_iff.2 (takes.trans closes)⟩
  · rw [takes, Device.search_faulted faulted]
    have ends := Device.endJob_failed (j := taken) (o := .appendFailed) jobs alone rfl nofun (.inr rfl)
    refine ⟨congrArg RollbackEngine.jobs ends.rollback, congrArg RollbackEngine.hand ends.rollback, ends.claims, ends.array,
      ends.scope, ?_, ends.all, ends.level⟩
    exact (congrArg AlertUnit.latches ends.alerts).trans (congrArg (d.alerts.latches ||| ·) (latchBit_wedged j.port))

/-! ## Restoring a line -/

/-- A latch that has been set stays set whatever is latched after it. -/
theorem BitVec.or_or_and_self {w : Nat} (x m y : BitVec w) : ((x ||| m) ||| y) &&& m = m := by
  apply BitVec.eq_of_getLsbD_eq
  intro i _
  simp only [BitVec.getLsbD_and, BitVec.getLsbD_or]
  cases x.getLsbD i <;> cases m.getLsbD i <;> cases y.getLsbD i <;> rfl

/-- The slots after a line has been restored (R37, R38). -/
def restoredSlots (d : Device) (slot : Fin 256) (c : Claim) (kind : JobKind) : Vector (Option Claim) 256 :=
  d.claims.slots.set slot
    (match kind with
      | .all => none
      | .level l =>
        if putImage c.images l none = ⟨none, none, none, none⟩ then none
        else some { c with images := putImage c.images l none })

theorem ClaimTable.restored_eq {d : Device} {slot : Fin 256} {c : Claim} (entry : d.claims.slots[slot] = some c)
    (kind : JobKind) : d.claims.restored slot kind = ⟨restoredSlots d slot c kind⟩ := by
  cases kind with
  | all => rfl
  | level l => exact ClaimTable.update_eq entry _

section
variable {d : Device} {j : Job} {others : List Job} {h : InHand} (engine : d.rollback = ⟨j :: others, some h⟩)
include engine

theorem Device.rollbackAnswer_failed : d.rollbackAnswer none = d.restoreFailed j := by
  simp only [Device.rollbackAnswer, engine]

variable {data first : LineData}

theorem Device.rollbackAnswer_header (step : h.step = .readHeader) : d.rollbackAnswer (some data) =
    ({ d with rollback := { d.rollback with hand := some { h with step := .readBody data } } } : Device).askRollback
      (.readLine (d.journal.lineOf (h.position + 2))) := by
  simp only [Device.rollbackAnswer, engine, step]

theorem Device.rollbackAnswer_body (step : h.step = .readBody first) : d.rollbackAnswer (some data) =
    if restoreChecks h (decodeHeader (headerCell h.position first)) (imageBody h.position first data) then
      ({ d with rollback := { d.rollback with hand := some { h with step := .write } } } : Device).askRollback
        (.writeFull h.line (imageBody h.position first data))
    else d.restoreFailed j := by
  simp only [Device.rollbackAnswer, engine, step]

theorem Device.rollbackAnswer_write (step : h.step = .write) : d.rollbackAnswer (some data) = d.lineRestored j h := by
  simp only [Device.rollbackAnswer, engine, step]

end

theorem restoreChecks_iff (h : InHand) (header : Header) (body : LineData) : restoreChecks h header body = true ↔
    header.kind = 2#8 ∧ header.length = 3#8 ∧ header.target.toNat = h.line ∧
      header.check = recordCheck header (some body) := by
  simp [restoreChecks, kindImage, and_assoc]

/-- Settles O40, by the step of the line in hand. -/
theorem restoreReadsChecksAndWrites : Obligations.RestoreReadsChecksAndWrites := by
  intro q d o j others h data s host reads wedged fails ho requester engine alone restoring
  have engine' : (portFree d).rollback = ⟨j :: others, some h⟩ := engine
  have jobs : d.rollback.jobs = j :: others := congrArg RollbackEngine.jobs engine
  have active : j.phase ≠ .waiting := by simp [restoring]
  have answers : effect (.arrayAnswer o.number true data) d = (portFree d).rollbackAnswer (some data) := by
    rw [effect_answer ho, Device.deliver, requester]
  have media {c : Instr} {n : Counters} (ht : effect c d = ({ portFree d with counters := n } : Device).restoreFailed j) :
      fails (exec c ⟨q, d⟩) := by
    refine (nexts_exec ..).2 ?_
    have ends := Device.endJob_failed (d := ({ portFree d with counters := n } : Device).latch .media) (o := .restoreFailed)
      jobs alone rfl active (.inl rfl)
    rw [ht]
    refine ⟨⟨ends.rollback, ends.array, ends.journal, ends.scope, ends.all, ends.level⟩, ends.claims, ?_⟩
    exact (congrArg (fun a : AlertUnit => a.latches &&& 0x040#10) ends.alerts).trans (BitVec.or_or_and_self ..)
  have failed {c : Instr} (hc : c = .arrayAnswer o.number false data ∨ c = .arrayResponseTimeout) : fails (exec c ⟨q, d⟩) := by
    refine media (n := (failedAccess d c).counters) ?_
    rw [effect_failedAccess ho hc, Device.deliver, requester]
    exact Device.rollbackAnswer_failed (d := failedAccess d c) engine
  refine ⟨fun step => exec_eq_iff.2 (answers.trans ?_), fun first step => ?_, failed (.inl rfl), failed (.inr rfl),
    fun step c entry => ?_⟩
  · have asked := Device.rollbackAnswer_header (data := data) engine' step
    exact asked
  · intro header body good
    refine ⟨fun isGood => exec_eq_iff.2 (answers.trans ?_), fun isBad => ?_⟩
    · rw [Device.rollbackAnswer_body engine' step]
      exact if_pos ((restoreChecks_iff ..).2 isGood)
    · refine media (n := d.counters) (answers.trans ?_)
      rw [Device.rollbackAnswer_body engine' step]
      exact if_neg fun checks => isBad ((restoreChecks_iff ..).1 checks)
  · intro slots counted wanted image level written free
    let t : Device := { free with rollback := ⟨j :: others, none⟩ }
    have restored : effect (.arrayAnswer o.number true data) d =
        if d.part = .stopping then t.endJob counted .stopped else t.search counted := by
      rw [answers, Device.rollbackAnswer_write engine' step]
      simp only [Device.lineRestored, ClaimTable.restored_eq (d := portFree d) entry, engine']
      rfl
    have drops : t.dropJob counted = { t with rollback := ⟨others, none⟩ } := Device.dropJob_eq rfl alone rfl active
    refine ⟨fun stopping => (nexts_exec ..).2 ?_, fun going faulted => (nexts_exec ..).2 ?_, fun going normal =>
      ⟨fun next x cell after entry' want himage first => exec_eq_iff.2 ?_, fun none low high => ?_⟩⟩
    · rw [restored, if_pos stopping]
      cases kind : j.kind with
      | all =>
        rw [Device.endJob_all_stopped (j := counted) kind, drops]
        exact ⟨rfl, rfl, rfl, rfl, rfl, fun _ => rfl, fun l k e level => by simp at level⟩
      | level l =>
        rw [Device.endJob_level_stopped (j := counted) kind, drops]
        refine ⟨rfl, rfl, rfl, rfl, rfl, fun all => by simp at all, fun _ k e _ mark he => ?_⟩
        exact congrArg Device.host (Device.answerMark_eq (d := { t with rollback := ⟨others, Option.none⟩ }) mark he .halted)
    · rw [restored, if_neg going, Device.search_faulted (d := t) faulted]
      have ends := Device.endJob_failed (d := t) (j := counted) (o := .appendFailed) rfl alone rfl active (.inr rfl)
      exact ⟨congrArg ClaimTable.slots ends.claims, ends.rollback, ends.array, ends.journal, ends.scope, ends.all, ends.level⟩
    · rw [restored, if_neg going]
      exact Device.search_found (d := t) (j := counted) normal rfl alone rfl (Device.nextEntry_some (d := t) (j := counted)
        entry' want after ((jobImage_eq ..).trans himage) fun k lt ge => first k ge lt)
    · obtain ⟨e, he, closes⟩ := Device.search_closes (d := t) (j := counted) normal rfl alone rfl
        (Device.nextEntry_none (d := t) (j := counted) none) low high
      exact ⟨e, he, exec_eq_iff.2 (restored.trans ((if_neg going).trans closes))⟩

end Sys2Proof.Machine

/-!
The forward scan, the walks, the closing records and the ends of recovery (O46, O47).
-/
namespace Sys2Proof.Machine

-- One proof at a time: each would otherwise hold a thread of its own.
set_option Elab.async false

/-! ## Conditions on a record -/

theorem kindOk_iff (cells c : Nat) (h : Header) : kindOk cells c h = true ↔ LengthFits cells c h := by
  have pad : (h.length = 1#8 ∨ h.length = 2#8) → (h.length.toNat = cells - c ↔ c + h.length.toNat = cells) := by
    rintro (len | len) <;> simp only [len, BitVec.toNat_ofNat, Nat.reducePow, Nat.reduceMod] <;> omega
  simp only [kindOk, LengthFits, kindOpen, kindClose, kindImage, kindPad, Bool.or_eq_true, Bool.and_eq_true, beq_iff_eq,
    decide_eq_true_eq, or_assoc, and_assoc]
  have last : (h.kind = 4#8 ∧ (h.length = 1#8 ∨ h.length = 2#8) ∧ h.length.toNat = cells - c) ↔
      h.kind = 4#8 ∧ (h.length = 1#8 ∨ h.length = 2#8) ∧ c + h.length.toNat = cells :=
    and_congr_right fun _ => and_congr_right pad
  rw [last]

theorem priorOf_inRange (x : BitVec 32) (cells : Nat) :
    (∀ q, priorOf x = some q → q < cells) ↔ x = 0xFFFFFFFF#32 ∨ x.toNat < cells := by
  unfold priorOf priorAbsent
  by_cases absent : x = 0xFFFFFFFF#32 <;> simp [absent]

theorem fieldsOk_iff (d : Device) (h : Header) : fieldsOk d h = true ↔ FieldsInRange d h := by
  have level : (if h.kind = kindPad then h.level == 0#8 else decide (1 ≤ h.level.toNat) && decide (h.level.toNat ≤ 4)) = true ↔
      if h.kind = 4#8 then h.level = 0#8 else 1 ≤ h.level.toNat ∧ h.level.toNat ≤ 4 := by
    unfold kindPad
    split <;> simp
  have code : (if h.kind = kindClose then decide (1 ≤ h.code.toNat) && decide (h.code.toNat ≤ 7) else h.code == 0#8) = true ↔
      if h.kind = 3#8 then 1 ≤ h.code.toNat ∧ h.code.toNat ≤ 7 else h.code = 0#8 := by
    unfold kindClose
    split <;> simp
  have target : (if h.kind = kindImage then
      decide (h.target.toNat < d.regions.lineCount.getD 0) && decide (Config.anchorLines ≤ h.target.toNat) &&
        !(decide (d.journal.base ≤ h.target.toNat) && decide (h.target.toNat < d.journal.base + d.journal.lines))
      else true) = true ↔
      (h.kind = 2#8 → h.target.toNat < d.regions.lineCount.getD 0 ∧ 4 ≤ h.target.toNat ∧ ¬InJournal d h.target.toNat) := by
    rw [← Bool.decide_and, ← Bool.decide_and, ← decide_not, ← Bool.decide_and]
    by_cases image : h.kind = 2#8
    · simp only [kindImage, image, if_true, decide_eq_true_eq, and_assoc, true_imp_iff]
      rfl
    · simp only [kindImage, image, if_false, false_imp_iff]
  simp only [fieldsOk, FieldsInRange, ← priorOf_inRange h.prior, Bool.and_eq_true]
  rw [level, code, target]
  cases priorOf h.prior with
  | none =>
    simp only [Bool.or_eq_true, beq_iff_eq, and_assoc, reduceCtorEq, false_imp_iff, implies_true]
  | some q =>
    simp only [Bool.or_eq_true, beq_iff_eq, and_assoc, decide_eq_true_eq, Option.some.injEq, forall_eq']
    rfl

theorem checkOk_iff (h : Header) (body : Option LineData) : checkOk h body = true ↔ h.check = recordCheck h body := by
  simp [checkOk]

theorem headerPort_eq_iff {h : Header} (port : h.port = 0#8 ∨ h.port = 1#8) (p : Port) :
    headerPort h = p ↔ h.port.toNat = p.num := by
  rcases port with port | port <;> cases p <;> simp [headerPort, port, Port.num]

theorem headerFits_iff (d : Device) (c : Nat) (h : Header) :
    (kindOk d.journal.cells c h && h.epoch == d.journal.epoch) = true ↔ HeaderFits d c h := by
  rw [Bool.and_eq_true, kindOk_iff, beq_iff_eq]
  rfl

/-- The walk's checks (R133) are those of R129 but for the sequence. -/
theorem onChain_iff (d : Device) (p : Port) (c : Nat) (h : Header) (body : Option LineData) :
    (kindOk d.journal.cells c h && h.epoch == d.journal.epoch && checkOk h body && fieldsOk d h && headerPort h == p) = true ↔
      OnChain d p c h body := by
  rw [Bool.and_eq_true, Bool.and_eq_true, Bool.and_eq_true, headerFits_iff, checkOk_iff, fieldsOk_iff, beq_iff_eq]
  constructor
  · rintro ⟨⟨⟨fits, check⟩, fields⟩, port⟩
    exact ⟨fits, check, fields, (headerPort_eq_iff fields.1 p).1 port⟩
  · rintro ⟨fits, check, fields, port⟩
    exact ⟨⟨⟨fits, check⟩, fields⟩, (headerPort_eq_iff fields.1 p).2 port⟩

/-- A record that conditions 1 to 3 hold of is accepted when the tests of the scan hold (R129). -/
theorem accepted_iff {d : Device} {h : Header} (fits : HeaderFits d d.recovery.pos h)
    (sequence : h.sequence = d.recovery.expected) (body : Option LineData) :
    (checkOk h body && fieldsOk d h && decide (d.recovery.cells + h.length.toNat < d.journal.cells)) = true ↔
      Accepted d h body := by
  rw [Bool.and_eq_true, Bool.and_eq_true, checkOk_iff, fieldsOk_iff, decide_eq_true_eq]
  constructor
  · rintro ⟨⟨check, fields⟩, room⟩
    exact ⟨fits, sequence, check, fields, room⟩
  · rintro ⟨-, -, check, fields, room⟩
    exact ⟨⟨check, fields⟩, room⟩

/-! ## Recovery fails or is complete -/

theorem Device.failRecovery_eq (d : Device) (cause : FailCause) : d.failRecovery cause = { d with
    part := if d.part = .stopping then .stopping else .failed
    journal := { d.journal with faulted := true }
    recovery := { d.recovery with phase := .idle, result := .failed, cause := some cause }
    alerts := { d.alerts with latches := (d.alerts.latches ||| 0x008#10) ||| 0x040#10 } } := rfl

theorem Device.failRecovery_recovering {d : Device} (part : d.part = .recovering) (cause : FailCause) :
    d.failRecovery cause = recoveryFailed d cause := by
  rw [Device.failRecovery_eq, part]
  rfl

theorem Device.recoveryComplete_eq (d : Device) : d.recoveryComplete =
    { recovered d with part := if d.part = .recovering then .running else d.part } := rfl

theorem Device.recoveryComplete_recovering {d : Device} (part : d.part = .recovering) :
    d.recoveryComplete = recovered d := by
  rw [Device.recoveryComplete_eq, if_pos part]
  rfl

/-! ## The closing records and the final update -/

theorem Device.recoveryFinish_asks {d : Device} (h : d.journal.head ≠ d.journal.tail) :
    d.recoveryFinish = asksFinalUpdate d := if_neg h

theorem Device.recoveryFinish_complete {d : Device} (h : d.journal.head = d.journal.tail) (part : d.part = .recovering) :
    d.recoveryFinish = recovered d := (if_pos h).trans (Device.recoveryComplete_recovering part)

theorem Device.nextClosing_p0 {d : Device} {e : ScanEntry} {below : List ScanEntry}
    (h : d.recovery.ports.p0.stack = e :: below) : d.nextClosing = closesLevel d .p0 e := by
  simp only [Device.nextClosing, h]
  rfl

theorem Device.nextClosing_p1 {d : Device} {e : ScanEntry} {below : List ScanEntry}
    (h0 : d.recovery.ports.p0.stack = []) (h1 : d.recovery.ports.p1.stack = e :: below) :
    d.nextClosing = closesLevel d .p1 e := by
  simp only [Device.nextClosing, h0, h1]
  rfl

theorem Device.nextClosing_none {d : Device} (h0 : d.recovery.ports.p0.stack = []) (h1 : d.recovery.ports.p1.stack = []) :
    d.nextClosing = d.recoveryFinish := by
  simp only [Device.nextClosing, h0, h1]

/-! ## The walks -/

theorem Device.walkTo_eq (d : Device) (p : Port) (c : Nat) : d.walkTo p c = walksTo d p c := rfl

theorem Device.walksDone_eq (d : Device) : d.walksDone = (walked d).nextClosing := rfl

theorem Device.walkPort_empty {d : Device} {p : Port} (h : (d.recovery.ports.get p).stack = []) (next : Device) :
    d.walkPort p next = next := if_pos h

theorem Device.walkPort_open {d : Device} {p : Port} {c : Nat} (h : (d.recovery.ports.get p).stack ≠ [])
    (last : (d.recovery.ports.get p).last = some c) (next : Device) : d.walkPort p next = walksTo d p c := by
  simp only [Device.walkPort, last]
  exact if_neg h

section
variable {d : Device} {c : Nat}

theorem Device.walkFromP1_open (open1 : d.recovery.ports.p1.stack ≠ []) (last : d.recovery.ports.p1.last = some c) :
    d.walkFromP1 = walksTo d .p1 c := Device.walkPort_open (p := .p1) open1 last _

theorem Device.walkFromP1_empty (empty1 : d.recovery.ports.p1.stack = []) : d.walkFromP1 = d.walksDone :=
  Device.walkPort_empty (p := .p1) empty1 _

theorem Device.walkFromP0_open (open0 : d.recovery.ports.p0.stack ≠ []) (last : d.recovery.ports.p0.last = some c) :
    d.walkFromP0 = walksTo d .p0 c := Device.walkPort_open (p := .p0) open0 last _

theorem Device.walkFromP0_empty (empty0 : d.recovery.ports.p0.stack = []) : d.walkFromP0 = d.walkFromP1 :=
  Device.walkPort_empty (p := .p0) empty0 _

variable (empty0 : d.recovery.ports.p0.stack = []) (empty1 : d.recovery.ports.p1.stack = [])
include empty0 empty1

theorem Device.walkFromP0_none : d.walkFromP0 = (walked d).recoveryFinish := by
  rw [Device.walkFromP0_empty empty0, Device.walkFromP1_empty empty1, Device.walksDone_eq]
  exact Device.nextClosing_none empty0 empty1

theorem Device.walkFromP0_asks (moved : d.journal.head ≠ d.journal.tail) : d.walkFromP0 = asksFinalUpdate (walked d) :=
  (Device.walkFromP0_none empty0 empty1).trans (Device.recoveryFinish_asks moved)

theorem Device.walkFromP0_complete (same : d.journal.head = d.journal.tail) (part : d.part = .recovering) :
    d.walkFromP0 = recovered (walked d) :=
  (Device.walkFromP0_none empty0 empty1).trans (Device.recoveryFinish_complete same part)

end

theorem Device.walkOn_prior (d : Device) (p : Port) (c prior : Nat) : d.walkOn p c (some prior) = walksTo d p prior := rfl

section
variable {d : Device} {t : TreeStart} {c : Nat}

theorem Device.walkOn_p0_ends (start : d.journal.treeStart.get .p0 = some t) (h : t.position = c) :
    d.walkOn .p0 c none = d.walkFromP1 := by
  simp only [Device.walkOn, start, h, if_true]

theorem Device.walkOn_p1_ends (start : d.journal.treeStart.get .p1 = some t) (h : t.position = c) :
    d.walkOn .p1 c none = d.walksDone := by
  simp only [Device.walkOn, start, h, if_true]

theorem Device.walkOn_elsewhere {p : Port} (start : d.journal.treeStart.get p = some t) (h : t.position ≠ c) :
    d.walkOn p c none = d.failRecovery .chainCheck := by
  simp only [Device.walkOn, start, h, if_false]

end

theorem Device.walkRecord_header {d : Device} {p : Port} {c : Nat} {h : Header} (chained : OnChain d p c h none) :
    d.walkRecord p c h none = d.walkOn p c (priorOf h.prior) := if_pos ((onChain_iff ..).2 chained)

theorem Device.walkRecord_image {d : Device} {p : Port} {c : Nat} {h : Header} {body : LineData}
    (chained : OnChain d p c h (some body)) : d.walkRecord p c h (some body) =
      engineAsks { d with recovery := { d.recovery with images := d.recovery.images + 1 } } (.walkWrite p c (priorOf h.prior))
        (.writeFull h.target.toNat body) := if_pos ((onChain_iff ..).2 chained)

theorem Device.walkRecord_fails {d : Device} {p : Port} {c : Nat} {h : Header} {body : Option LineData}
    (not : ¬OnChain d p c h body) : d.walkRecord p c h body = d.failRecovery .chainCheck :=
  if_neg fun all => not ((onChain_iff ..).1 all)

section
variable {d : Device} {p : Port} {c : Nat} {line : LineData}

theorem Device.walkHeaderRead_image (kind : (decodeHeader (headerCell c line)).kind = 2#8)
    (fits : HeaderFits d c (decodeHeader (headerCell c line))) : d.walkHeaderRead p c line =
      engineAsks d (.walkBody p c line) (.readLine (d.journal.base + (c + 2) / 2)) :=
  (if_pos kind).trans (if_pos ((headerFits_iff ..).2 fits))

theorem Device.walkHeaderRead_fails (kind : (decodeHeader (headerCell c line)).kind = 2#8)
    (not : ¬HeaderFits d c (decodeHeader (headerCell c line))) : d.walkHeaderRead p c line = d.failRecovery .chainCheck :=
  (if_pos kind).trans (if_neg fun fits => not ((headerFits_iff ..).1 fits))

theorem Device.walkHeaderRead_other (kind : (decodeHeader (headerCell c line)).kind ≠ 2#8) :
    d.walkHeaderRead p c line = d.walkRecord p c (decodeHeader (headerCell c line)) none := if_neg kind

end

/-! ## The forward scan -/

theorem scanTree_eq (s : ScanPort) : scanTree s = s.stack.getLast?.map fun e => ⟨e.position, e.sequence⟩ := by
  unfold scanTree
  cases s.stack.getLast? <;> rfl

theorem Device.scanEnds_eq (d : Device) : d.scanEnds = (scanEnded d d.recovery.mismatch).walkFromP0 := by
  simp only [Device.scanEnds, scanTree_eq]
  rfl

theorem Device.scanEnds_mismatch (d : Device) :
    (d.onRecovery fun r => { r with mismatch := true }).scanEnds = (scanEnded d true).walkFromP0 :=
  Device.scanEnds_eq _

theorem Device.scanTake_eq (d : Device) (h : Header) (ports : PerPort ScanPort) :
    (d.onRecovery fun r => { r with ports := ports }).scanTake h = scannedOn d h ports := rfl

section
variable {d : Device} {h : Header} {body : Option LineData} (fits : HeaderFits d d.recovery.pos h)
  (sequence : h.sequence = d.recovery.expected)
include fits sequence

theorem Device.scanRecord_ends (not : ¬Accepted d h body) : d.scanRecord h body = d.scanEnds :=
  if_neg fun all => not ((accepted_iff fits sequence body).1 all)

theorem Device.scanRecord_pad (ok : Accepted d h body) (kind : h.kind = 4#8) :
    d.scanRecord h body = scannedOn d h d.recovery.ports :=
  (if_pos ((accepted_iff fits sequence body).2 ok)).trans (if_pos kind)

theorem Device.scanRecord_matched (ok : Accepted d h body) (kind : h.kind ≠ 4#8) {p : Port} (port : h.port.toNat = p.num)
    {s : ScanPort} (found : matchRecord (d.recovery.ports.get p) d.recovery.pos h = some s) :
    d.scanRecord h body = scannedOn d h (d.recovery.ports.set p s) := by
  have own : headerPort h = p := (headerPort_eq_iff ok.2.2.2.1.1 p).2 port
  refine (if_pos ((accepted_iff fits sequence body).2 ok)).trans ((if_neg kind).trans ?_)
  simp only [own, found]
  rfl

theorem Device.scanRecord_mismatch (ok : Accepted d h body) (kind : h.kind ≠ 4#8) {p : Port} (port : h.port.toNat = p.num)
    (none : matchRecord (d.recovery.ports.get p) d.recovery.pos h = none) :
    d.scanRecord h body = (scanEnded d true).walkFromP0 := by
  have own : headerPort h = p := (headerPort_eq_iff ok.2.2.2.1.1 p).2 port
  refine (if_pos ((accepted_iff fits sequence body).2 ok)).trans ((if_neg kind).trans ?_)
  simp only [own, none]
  exact Device.scanEnds_mismatch d

end

/-! ## An answer to the recovery engine -/

section
variable {d : Device} {o : Outstanding} (requester : o.requester = .recovery)
include requester

theorem Device.deliver_recovery (answer : Option LineData) : d.deliver o answer = d.recoveryAnswer answer := by
  simp only [Device.deliver, requester]

variable (part : d.part = .recovering) (data : LineData)
include part

theorem Device.deliver_scanHeader (phase : d.recovery.phase = .scanHeader) :
    d.deliver o (some data) = d.scanHeaderRead data := by
  simp only [Device.deliver, requester, Device.recoveryAnswer, part, phase, if_true]

theorem Device.deliver_scanBody {first : LineData} (phase : d.recovery.phase = .scanBody first) :
    d.deliver o (some data) =
      d.scanRecord (decodeHeader (headerCell d.recovery.pos first)) (some (imageBody d.recovery.pos first data)) := by
  simp only [Device.deliver, requester, Device.recoveryAnswer, part, phase, if_true]

theorem Device.deliver_walkHeader {p : Port} {c : Nat} (phase : d.recovery.phase = .walkHeader p c) :
    d.deliver o (some data) = d.walkHeaderRead p c data := by
  simp only [Device.deliver, requester, Device.recoveryAnswer, part, phase, if_true]

theorem Device.deliver_walkBody {p : Port} {c : Nat} {first : LineData} (phase : d.recovery.phase = .walkBody p c first) :
    d.deliver o (some data) = d.walkRecord p c (decodeHeader (headerCell c first)) (some (imageBody c first data)) := by
  simp only [Device.deliver, requester, Device.recoveryAnswer, part, phase, if_true]

theorem Device.deliver_walkWrite {p : Port} {c : Nat} {prior : Option Nat}
    (phase : d.recovery.phase = .walkWrite p c prior) : d.deliver o (some data) = d.walkOn p c prior := by
  simp only [Device.deliver, requester, Device.recoveryAnswer, part, phase, if_true]

end

/-! ## Matching -/

section
variable {s : ScanPort} {position : Nat} {h : Header}

theorem matchRecord_open_fresh (kind : h.kind = 1#8) (started : s.started = false) : matchRecord s position h =
    some (if h.level.toNat = 1 ∧ priorOf h.prior = none then
      { started := true, stack := [⟨h.level.toNat, h.serial, position, h.sequence⟩], last := some position,
        lastOpen := some h.serial }
    else { s with lastOpen := some h.serial }) := by
  simp only [matchRecord, kindOpen, kind, started, if_true]
  split <;> rfl

theorem matchRecord_open_started (kind : h.kind = 1#8) (started : s.started = true) : matchRecord s position h =
    if h.level.toNat = s.stack.length + 1 ∧ priorOf h.prior = (if h.level.toNat = 1 then none else s.last) then
      some { s with
        stack := ⟨h.level.toNat, h.serial, position, h.sequence⟩ :: s.stack, last := some position
        lastOpen := some h.serial }
    else none := by
  simp only [matchRecord, kindOpen, kind, started, if_true, Bool.true_eq_false, if_false]

theorem matchRecord_ignored (kind : h.kind = 2#8 ∨ h.kind = 3#8) (started : s.started = false) :
    matchRecord s position h = some s := by
  rcases kind with kind | kind <;> simp [matchRecord, kindOpen, kind, started]

theorem matchRecord_empty (kind : h.kind = 2#8 ∨ h.kind = 3#8) (started : s.started = true) (stack : s.stack = []) :
    matchRecord s position h = none := by
  rcases kind with kind | kind <;> simp [matchRecord, kindOpen, kind, started, stack]

variable {top : ScanEntry} {below : List ScanEntry}

theorem matchRecord_image (kind : h.kind = 2#8) (started : s.started = true) (stack : s.stack = top :: below) :
    matchRecord s position h =
      if h.level.toNat = s.stack.length ∧ h.serial = top.serial ∧ priorOf h.prior = s.last then
        some { s with last := some position } else none := by
  simp [matchRecord, kindOpen, kindImage, kind, started, stack]

theorem matchRecord_close (kind : h.kind = 3#8) (started : s.started = true) (stack : s.stack = top :: below) :
    matchRecord s position h =
      if h.level.toNat = s.stack.length ∧ h.serial = top.serial ∧ priorOf h.prior = s.last ∧
          (h.code = 2#8 → h.level.toNat = 1) ∧ (h.code = 1#8 → 2 ≤ h.level.toNat) then
        some { s with stack := below, last := if below = [] then none else some position } else none := by
  have parts (a b c d e : Prop) [Decidable (a ∧ b ∧ c)] [Decidable (d ∧ e)] [Decidable (a ∧ b ∧ c ∧ d ∧ e)]
      (x : Option ScanPort) : (if a ∧ b ∧ c then if d ∧ e then x else none else none) =
        if a ∧ b ∧ c ∧ d ∧ e then x else none := by
    rw [← ite_and]
    simp only [and_assoc]
  simp only [matchRecord, kindOpen, kindImage, closeValue, kind, started, stack, BitVec.reduceEq, if_false, Bool.true_eq_false,
    parts]

end

/-- Settles O46: Table 8-4 by kind, started or not, and depth; then by the phase of the scan. -/
theorem scanRecordsAreMatched : Obligations.ScanRecordsAreMatched := by
  refine ⟨fun s position h => ?_, fun q d o data => ?_⟩
  · intro level prior pushed
    refine ⟨fun kind started stack => ?_, fun kind started => matchRecord_ignored kind started, fun kind started => ?_,
      fun kind started top below stack => matchRecord_image kind started stack,
      fun kind started top below stack => matchRecord_close kind started stack,
      fun kind started stack => matchRecord_empty kind started stack⟩
    · rw [matchRecord_open_fresh kind started]
      simp only [pushed, stack]
      rfl
    · rw [matchRecord_open_started kind started]
      have fresh : { s with
          stack := ⟨level, h.serial, position, h.sequence⟩ :: s.stack, last := some position
          lastOpen := some h.serial } = pushed := by simp only [pushed, ← started]
      have same : (level = s.stack.length + 1 ∧ prior = if level = 1 then none else s.last) ↔
          (level = s.stack.length + 1 ∧ (level = 1 → prior = none) ∧ (level ≠ 1 → prior = s.last)) := by
        split <;> simp_all
      rw [← fresh, ← if_congr same rfl rfl]
      rfl
  · intro r answers ends judged ho requester part
    have answers_of {t : Device} (h : (portFree d).deliver o (some data) = t) : answers t :=
      exec_eq_iff.2 ((effect_answer ho data).trans h)
    have ends_of {mismatch : Bool} (h : (portFree d).deliver o (some data) = (scanEnded (portFree d) mismatch).walkFromP0) :
        ends mismatch := by
      refine ⟨fun stack c last => answers_of (h.trans ?_), fun stack0 stack c last => answers_of (h.trans ?_),
        fun stack0 stack1 => ⟨fun moved => answers_of (h.trans ?_), fun same => answers_of (h.trans ?_)⟩⟩
      · exact Device.walkFromP0_open (d := scanEnded (portFree d) mismatch) stack last
      · exact (Device.walkFromP0_empty (d := scanEnded (portFree d) mismatch) stack0).trans
          (Device.walkFromP1_open stack last)
      · exact Device.walkFromP0_asks (d := scanEnded (portFree d) mismatch) stack0 stack1 moved
      · exact Device.walkFromP0_complete (d := scanEnded (portFree d) mismatch) stack0 stack1 same part
    have judged_of {h : Header} {body : Option LineData} (fits : HeaderFits d r.pos h) (sequence : h.sequence = r.expected)
        (hr : (portFree d).deliver o (some data) = (portFree d).scanRecord h body) : judged h body := by
      refine ⟨fun not => ends_of (hr.trans ?_), fun ok kind => answers_of (hr.trans ?_), fun ok kind p port =>
        ⟨fun s found => answers_of (hr.trans ?_), fun none => ends_of (hr.trans ?_)⟩⟩
      · exact (Device.scanRecord_ends (d := portFree d) fits sequence not).trans (Device.scanEnds_eq _)
      · exact Device.scanRecord_pad (d := portFree d) fits sequence ok kind
      · exact Device.scanRecord_matched (d := portFree d) fits sequence ok kind port found
      · exact Device.scanRecord_mismatch (d := portFree d) fits sequence ok kind port none
    refine ⟨fun phase => ?_, fun first phase => ?_⟩
    · intro h fits
      have header : (portFree d).deliver o (some data) = (portFree d).scanHeaderRead data :=
        Device.deliver_scanHeader (d := portFree d) requester part data phase
      have fits_iff : (kindOk d.journal.cells r.pos h && h.epoch == d.journal.epoch && h.sequence == r.expected) = true ↔
          fits := by
        rw [Bool.and_eq_true, headerFits_iff, beq_iff_eq]
      have unfit (not : ¬fits) : ends r.mismatch :=
        ends_of (header.trans ((if_neg fun all => not (fits_iff.1 all)).trans (Device.scanEnds_eq _)))
      refine ⟨fun kind => ?_, fun kind ok => answers_of (header.trans ?_), fun kind not => unfit not⟩
      · by_cases ok : fits
        · exact judged_of ok.1 ok.2 (header.trans ((if_pos (fits_iff.2 ok)).trans (if_neg kind)))
        · refine ⟨fun _ => unfit ok, fun accepted => ?_, fun accepted => ?_⟩ <;> exact absurd ⟨accepted.1, accepted.2.1⟩ ok
      · exact (if_pos (fits_iff.2 ok)).trans (if_pos kind)
    · intro h kind fits sequence
      exact judged_of fits sequence (Device.deliver_scanBody (d := portFree d) requester part data phase)

end Sys2Proof.Machine

/-!
The ends of recovery: the walk, the closing records, the final update and the failures (O47).
-/
namespace Sys2Proof.Machine

-- One proof at a time: each would otherwise hold a thread of its own.
set_option Elab.async false

/-! ## An update is durable -/

theorem Device.updateReply_eq (d : Device) (code : ReplyCode) :
    d.updateReply code = { d with link := toldOf d.link .update code [] } := by
  unfold Device.updateReply
  split
  · next slot => exact Device.reply_eq_toldOf slot ..
  · next slot => rw [toldOf, if_neg slot]

/-- The part when an update is durable and the management command it covers is answered (R117, R119). -/
def Device.updateTaken (d : Device) (u : Update) : Device := { d with
  anchor := (d.anchor.copyDurable u).endCovered
  journal := { d.journal.releaseHold (decide (d.anchor.writerReq = .covered)) with
    tail := u.values.tail, tailSeq := u.values.tailSeq }
  counters := { d.counters with anchorWrites := counted d.counters.anchorWrites }
  link := if d.anchor.linkReq = .covered then toldOf d.link .update .done [] else d.link }

theorem Device.updateDurable_eq (d : Device) (u : Update) : d.updateDurable u =
    (if d.anchor.recoveryReq = .covered then (d.updateTaken u).recoveryComplete else d.updateTaken u).lagCheck := by
  unfold Device.updateDurable Device.updateTaken
  by_cases link : d.anchor.linkReq = .covered
  · simp only [link, if_true, Device.updateReply_eq]
    rfl
  · simp only [link, if_false]
    rfl

section
variable {d : Device} {u : Update}

theorem Device.updateDurable_running (recovery : d.anchor.recoveryReq ≠ .covered) :
    d.updateDurable u = lagChecked (d.updateTaken u) := by
  rw [Device.updateDurable_eq, if_neg recovery, Device.lagCheck_eq]

theorem Device.updateDurable_recovery (recovery : d.anchor.recoveryReq = .covered) (part : d.part = .recovering) :
    d.updateDurable u = lagChecked (recovered (d.updateTaken u)) := by
  rw [Device.updateDurable_eq, if_pos recovery, Device.lagCheck_eq,
    Device.recoveryComplete_recovering (d := d.updateTaken u) part]

theorem Device.copyLineDone_recovery (second : u.second = true) (purpose : u.purpose = .recovery) :
    d.copyLineDone u = d.updateDurable u := by
  simp only [Device.copyLineDone, second, purpose, if_true]

theorem Device.copyLineDone_running (second : u.second = true) (purpose : u.purpose = .running) :
    d.copyLineDone u = d.updateDurable u := by
  simp only [Device.copyLineDone, second, purpose, if_true]

theorem Device.copyWriteFailed_recovery (purpose : u.purpose = .recovery) :
    d.copyWriteFailed u = (d.onAnchor fun a => a.copyFailed.endCovered).failRecovery .anchorWrite := by
  simp only [Device.copyWriteFailed, purpose]

end

/-! ## An access of the engine fails -/

/-- The cause of a failed start where an access of the recovery engine fails (Table 8-5). -/
def accessCause : RecoveryPhase → Option FailCause
  | .scanHeader => some .scanRead
  | .scanBody _ => some .scanRead
  | .walkHeader _ _ => some .chainRead
  | .walkBody _ _ _ => some .chainRead
  | .walkWrite _ _ _ => some .imageWrite
  | .idle => none
  | .closing _ => none
  | .finalUpdate => none

theorem Device.recoveryAnswer_none {d : Device} {cause : FailCause} (h : accessCause d.recovery.phase = some cause) :
    d.recoveryAnswer none = d.failRecovery cause := by
  cases phase : d.recovery.phase <;> simp_all [accessCause, Device.recoveryAnswer]

/-- Both masks are set in what has been latched after them. -/
theorem BitVec.or_or_and_both (x y z : BitVec 10) : ((x ||| y) ||| z) &&& (y ||| z) = y ||| z := by
  ext i
  simp +contextual [or_imp]

/-! ## The closing records -/

theorem Device.tellDurable_recovery {d : Device} {i : Item} (source : i.source = .recovery) (position : Nat) :
    d.tellDurable i position = d.recoveryDurable i := by
  simp only [Device.tellDurable, source]

/-- The top level of a port's scan stack is closed (R134). -/
def topClosed (ports : PerPort ScanPort) (p : Port) : PerPort ScanPort :=
  ports.set p { ports.get p with stack := (ports.get p).stack.tail }

/-- A closing record is durable, nothing handed over yet (R134). -/
def Device.levelClosed (d : Device) (i : Item) : Device := { d with
  recovery := { d.recovery with ports := topClosed d.recovery.ports i.port }
  journal := { d.journal with
    treeStart := if i.level = 1 then d.journal.treeStart.set i.port none else d.journal.treeStart } }

theorem Device.recoveryDurable_eq (d : Device) (i : Item) : d.recoveryDurable i =
    if (d.levelClosed i).part = .recovering then (d.levelClosed i).nextClosing
    else (d.levelClosed i).onRecovery fun r => { r with phase := .idle } := by
  unfold Device.recoveryDurable Device.levelClosed
  by_cases one : i.level = 1 <;> simp only [one, if_true, if_false] <;> rfl

theorem checked_recovery (d : Device) : (lagChecked (jlowChecked d)).recovery = d.recovery := by
  obtain ⟨x, hx⟩ := jlowChecked_spec d
  obtain ⟨w, hw⟩ := lagChecked_spec (jlowChecked d)
  rw [hw, hx]

/-- Settles O47, by the access that ends and the phase the engine has reached. -/
theorem recoveryFailsOrEndsInRunning : Obligations.RecoveryFailsOrEndsInRunning := by
  intro q d o data ho
  refine ⟨?_, ?_, ?_, ?_, ?_⟩
  · intro cause failed requester phase
    have named : accessCause d.recovery.phase = some cause := by
      cases h : d.recovery.phase <;> simp only [h] at phase <;> simp [accessCause, phase]
    have fails {c : Instr} (hc : c = .arrayAnswer o.number false data ∨ c = .arrayResponseTimeout) :
        effect c d = (failedAccess d c).failRecovery cause :=
      (effect_failedAccess ho hc).trans ((Device.deliver_recovery requester none).trans
        (Device.recoveryAnswer_none (d := failedAccess d c) named))
    exact ⟨exec_eq_iff.2 (fails (.inl rfl)), exec_eq_iff.2 (fails (.inr rfl))⟩
  · intro u requester cold update purpose second asked part
    refine (nexts_exec ..).2 ?_
    have done : effect (.arrayAnswer o.number true data) d = lagChecked (recovered ((portFree d).updateTaken u)) := by
      refine (effect_answer ho data).trans ((Device.deliver_copy (d := portFree d) requester cold update _).trans ?_)
      exact (Device.copyLineDone_recovery second purpose).trans (Device.updateDurable_recovery (d := portFree d) asked part)
    rw [done, lagChecked_eq]
    refine ⟨rfl, rfl, rfl, fun p => ?_, rfl, rfl, rfl, rfl, rfl⟩
    cases p <;> rfl
  · intro u requester cold update purpose part
    refine (nexts_exec ..).2 ?_
    have fails : effect (.arrayAnswer o.number false data) d =
        recoveryFailed ((failedAccess d (.arrayAnswer o.number false data)).onAnchor fun a => a.copyFailed.endCovered)
          .anchorWrite := by
      refine (effect_failedAccess ho (.inl rfl)).trans ?_
      refine (Device.deliver_copy (d := failedAccess d _) requester cold update _).trans ?_
      exact (Device.copyWriteFailed_recovery purpose).trans (Device.failRecovery_recovering
        (d := (failedAccess d _).onAnchor fun a => a.copyFailed.endCovered) part _)
    rw [fails]
    exact ⟨rfl, rfl, rfl, rfl, rfl, rfl, rfl, BitVec.or_or_and_both ..⟩
  · intro requester part r answers walkEnds fails goesOn priorCell p c
    have answers_of {t : Device} (h : (portFree d).deliver o (some data) = t) : answers t :=
      exec_eq_iff.2 ((effect_answer ho data).trans h)
    have fails_of (h : (portFree d).deliver o (some data) = (portFree d).failRecovery .chainCheck) : fails :=
      answers_of (h.trans (Device.failRecovery_recovering (d := portFree d) part _))
    have walkEnds_of (h : (portFree d).deliver o (some data) = (portFree d).walksDone) : walkEnds :=
      ⟨fun e below stack => answers_of (h.trans (Device.nextClosing_p0 (d := walked (portFree d)) stack)),
        fun e below stack0 stack1 => answers_of (h.trans (Device.nextClosing_p1 (d := walked (portFree d)) stack0 stack1))⟩
    have goesOn_of (prior : Option Nat) (h : (portFree d).deliver o (some data) = (portFree d).walkOn p c prior) :
        goesOn p c prior := by
      refine ⟨fun c' hc => answers_of (h.trans ?_), fun hc t start => ?_⟩
      · rw [hc]
        exact Device.walkOn_prior ..
      · rw [hc] at h
        refine ⟨fun same own stack c' last => answers_of (h.trans ?_), fun same own => walkEnds_of (h.trans ?_),
          fun other => fails_of (h.trans (Device.walkOn_elsewhere (d := portFree d) start other))⟩
        · subst own
          exact (Device.walkOn_p0_ends (d := portFree d) start same).trans
            (Device.walkFromP1_open (d := portFree d) stack last)
        · cases p with
          | p0 =>
            have empty1 : r.ports.p1.stack = [] := own.resolve_left nofun
            exact (Device.walkOn_p0_ends (d := portFree d) start same).trans
              (Device.walkFromP1_empty (d := portFree d) empty1)
          | p1 => exact Device.walkOn_p1_ends (d := portFree d) start same
    refine ⟨fun phase => ?_, fun first phase => ?_, fun prior phase => ?_⟩
    · intro h
      have header := Device.deliver_walkHeader (d := portFree d) requester part data phase
      have other (kind : h.kind ≠ 2#8) := header.trans (Device.walkHeaderRead_other kind)
      refine ⟨fun kind fits => answers_of (header.trans ?_), fun kind not => fails_of (header.trans ?_),
        fun kind chained => goesOn_of _ ((other kind).trans ?_), fun kind not => fails_of ((other kind).trans ?_)⟩
      · exact Device.walkHeaderRead_image (d := portFree d) kind fits
      · exact Device.walkHeaderRead_fails (d := portFree d) kind not
      · exact Device.walkRecord_header (d := portFree d) chained
      · exact Device.walkRecord_fails (d := portFree d) not
    · intro h body
      have record := Device.deliver_walkBody (d := portFree d) requester part data phase
      exact ⟨fun chained => answers_of (record.trans (Device.walkRecord_image (d := portFree d) chained)),
        fun not => fails_of (record.trans (Device.walkRecord_fails (d := portFree d) not))⟩
    · exact goesOn_of prior (Device.deliver_walkWrite (d := portFree d) requester part data phase)
  · intro p a hends source port pad record j ports closed answers
    subst port
    have kind : a.item.record ≠ .openScope := by simp [record]
    obtain ⟨-, -, -, part, journal, -⟩ := checked_keeps { portFree d with
      journal := appendedTo j a (j.last.set a.item.port (some a.position)) j.treeStart }
    have taken : closed = Device.levelClosed (lagChecked (jlowChecked { portFree d with
        journal := appendedTo j a (j.last.set a.item.port (some a.position)) j.treeStart })) a.item := by
      simp only [closed, Device.levelClosed, checked_recovery, journal]
      rfl
    have part : closed.part = d.part := part
    have durable : effect (.arrayAnswer o.number true data) d =
        if closed.part = .recovering then closed.nextClosing else closed.onRecovery fun r => { r with phase := .idle } := by
      rw [effect_appendEnds hends data, Journal.afterAppend_eq kind, Device.tellDurable_recovery source,
        Device.recoveryDurable_eq, ← taken]
    have stays : closed.journal.tail = j.tail := (congrArg Journal.tail journal :)
    refine ⟨fun stopping => exec_eq_iff.2 ?_, fun recovering => ?_⟩
    · exact durable.trans (if_neg fun recovering => by simp [part.symm.trans recovering] at stopping)
    · have recovering' : closed.part = .recovering := part.trans recovering
      have answers_of {t : Device} (h : closed.nextClosing = t) : answers t :=
        exec_eq_iff.2 (durable.trans ((if_pos recovering').trans h))
      refine ⟨fun e below stack => answers_of (Device.nextClosing_p0 stack),
        fun e below stack0 stack1 => answers_of (Device.nextClosing_p1 stack0 stack1), fun stack0 stack1 => ?_⟩
      have none := Device.nextClosing_none (d := closed) stack0 stack1
      exact ⟨fun moved => answers_of (none.trans (Device.recoveryFinish_asks (by rwa [stays]))),
        fun same => answers_of (none.trans (Device.recoveryFinish_complete (same.trans stays.symm) recovering'))⟩

end Sys2Proof.Machine

/-!
The replies of the read commands byte for byte (O51).
-/
namespace Sys2Proof.Machine

-- One proof at a time: each would otherwise hold a thread of its own.
set_option Elab.async false

/-! ## Items of the replies -/

theorem AnchorUnit.requested_eq (a : AnchorUnit) : a.requested =
    decide (a.writerReq ≠ .none ∨ a.linkReq ≠ .none ∨ a.recoveryReq ≠ .none ∨ a.format ≠ none) := by
  have format : a.format.isSome = decide (a.format ≠ none) := by cases a.format <;> simp
  rw [AnchorUnit.requested, format]
  simp only [Bool.decide_or, Bool.or_assoc]

theorem Option.isSome_eq_decide {α : Type} (o : Option α) [Decidable (o ≠ none)] : o.isSome = decide (o ≠ none) := by
  cases o <;> simp

/-- The entry of a level, counted from the top of the stack. -/
theorem stack_level (stack : List ScopeEntry) {l : Nat} (low : 1 ≤ l) :
    stack.reverse[l - 1]? = if l ≤ stack.length then stack[stack.length - l]? else none := by
  by_cases within : l ≤ stack.length
  · rw [if_pos within, List.getElem?_reverse (by omega)]
    congr 1
    omega
  · rw [if_neg within, List.getElem?_eq_none (by simp; omega)]

theorem agePayload_eq (s : ScopePort) : agePayload s =
    if s.stack = [] then bytes32 0xFFFFFFFF#32 else if s.age ≤ 0xFFFFFFFE then bytes32Of s.age else bytes32 0xFFFFFFFE#32 := by
  unfold agePayload
  by_cases old : s.age ≤ 0xFFFFFFFE
  · rw [if_pos old, Nat.min_eq_left old]
  · rw [if_neg old, Nat.min_eq_right (Nat.le_of_not_le old)]
    rfl

theorem attributeByte_eq (r : Region) : attributeByte r =
    0#4 ++ (BitVec.ofBool r.allow ++ (BitVec.ofBool r.enabled ++ BitVec.ofNat 2 (modeNum r.mode))) := by
  have all : ∀ allow enabled : Bool, ∀ mode : BitVec 2, 0#4 ++ BitVec.ofBool allow ++ BitVec.ofBool enabled ++ mode =
      0#4 ++ (BitVec.ofBool allow ++ (BitVec.ofBool enabled ++ mode)) := by decide
  exact all ..

theorem claimFlags_eq (c : Claim) : claimFlags c =
    BitVec.ofBool c.images.l4.isSome ++ (BitVec.ofBool c.images.l3.isSome ++ (BitVec.ofBool c.images.l2.isSome ++
      (BitVec.ofBool c.images.l1.isSome ++ (0#1 ++ (BitVec.ofBool c.recording ++ (BitVec.ofNat 1 c.port.num ++ 1#1)))))) := by
  have all : ∀ l4 l3 l2 l1 recording : Bool, ∀ port : BitVec 1,
      BitVec.ofBool l4 ++ BitVec.ofBool l3 ++ BitVec.ofBool l2 ++ BitVec.ofBool l1 ++ 0#1 ++ BitVec.ofBool recording ++ port ++
        1#1 = BitVec.ofBool l4 ++ (BitVec.ofBool l3 ++ (BitVec.ofBool l2 ++ (BitVec.ofBool l1 ++ (0#1 ++
          (BitVec.ofBool recording ++ (port ++ 1#1)))))) := by decide
  exact all ..

/-! ## Lengths -/

theorem jobPayload_length (j : Option Job) : (jobPayload j).length = 8 := by
  cases j with
  | none => rfl
  | some j => cases kind : j.kind <;> simp [jobPayload, kind, bytes16Of, bytes16]

theorem levelPayload_length (e : Option ScopeEntry) : (levelPayload e).length = 6 := by cases e <;> rfl

theorem agePayload_length (s : ScopePort) : (agePayload s).length = 4 := by
  unfold agePayload
  split <;> rfl

theorem Device.statePayload_length (d : Device) : d.statePayload.length = 36 := by
  unfold Device.statePayload
  cases d.recovery.scanEnd <;> rfl

theorem Device.scopePayload_length (d : Device) (p : Port) : (d.scopePayload p).length = 48 := by
  simp only [Device.scopePayload, List.length_append, jobPayload_length, levelPayload_length, agePayload_length]
  rfl

theorem slotPayload_length (c : Option Claim) : (slotPayload c).length = 15 := by cases c <;> rfl

/-- The slots a GET CLAIMS reply shows, before its zeros. -/
theorem Device.shownSlots_length (d : Device) (n : Nat) :
    (((d.claims.slots.toList.drop n).take 4).flatMap slotPayload).length = 15 * min 4 (256 - n) := by
  rw [List.length_flatMap, List.map_congr_left fun c _ => slotPayload_length c, List.map_const', List.sum_replicate_nat]
  simp [Nat.mul_comm]

/-- Settles O51, reply by reply. -/
theorem replyPayloadsAreLaidOut : Obligations.ReplyPayloadsAreLaidOut := by
  intro d p r n flag be2 be4 num4 portState mode requested updating depth state s job level scope j journal attrs slot slots
  have hrequested : flagByte d.anchor.requested = requested := by rw [AnchorUnit.requested_eq]; rfl
  have hupdating : flagByte d.anchor.update.isSome = updating := by rw [Option.isSome_eq_decide]; rfl
  have hport (x : PortState) : portValue x = portState x := by cases x <;> rfl
  have hmode (m : Mode) : BitVec.ofNat 2 (modeNum m) = mode m := by cases m <;> rfl
  have hstate : d.statePayload = state := by
    simp only [Device.statePayload, hrequested, hupdating, hport, ClaimTable.inUse, List.countP_eq_length_filter]
    rfl
  have hlevel (l : Nat) (low : 1 ≤ l) : levelPayload (s.stack.reverse[l - 1]?) = level l := by
    rw [stack_level _ low]
    rfl
  have hscope : d.scopePayload p = scope := by
    have one := hlevel 1 (by decide)
    have two := hlevel 2 (by decide)
    have three := hlevel 3 (by decide)
    have four := hlevel 4 (by decide)
    have action : byteOf (actionNum s.action) = match s.action with
        | .alert => 0#8
        | .abandon => 1#8 := by cases s.action <;> rfl
    have cause : causeValue s.pendingAbandon = match s.pendingAbandon with
        | none => 0#8
        | some .timer => 4#8
        | some .forced => 5#8
        | some .portReset => 6#8 := by
      cases s.pendingAbandon with
      | none => rfl
      | some cause => cases cause <;> rfl
    have hjob : jobPayload (d.jobOf p) = job := by
      simp only [job, Device.jobOf]
      cases d.rollback.jobs.find? fun j => j.port == p with
      | none => rfl
      | some j => rfl
    simp only [Device.scopePayload]
    rw [one, two, three, four, action, cause, hjob, agePayload_eq, hport]
    rfl
  have hjournal : d.journalPayload = if d.part = .unformatted then List.replicate 56 0#8 else journal := by
    have items : byteOf j.items = BitVec.ofNat 8 (j.queue.length + if j.append = none then 0 else 1) := by
      unfold Journal.items
      cases j.append <;> rfl
    unfold Device.journalPayload
    simp only [hrequested, hupdating]
    rw [items]
    rfl
  have hregion : d.regionPayload r = num4 r.first ++ num4 r.last ++
      [attrs, 0#6 ++ mode d.regions.defaultMode, 0#8, 0#8] ++ num4 (d.regions.lineCount.getD 0) := by
    have default : byteOf (modeNum d.regions.defaultMode) = 0#6 ++ mode d.regions.defaultMode := by
      rw [← hmode]
      cases d.regions.defaultMode <;> decide
    unfold Device.regionPayload
    rw [attributeByte_eq, hmode, default]
    rfl
  have hslot (c : Option Claim) : slotPayload c = slot c := by
    cases c with
    | none => rfl
    | some c =>
      simp only [slotPayload, claimFlags_eq, slot]
      cases c.port <;> rfl
  have hslots : ((d.claims.slots.toList.drop n).take 4).flatMap slotPayload = slots :=
    congrArg (fun f => ((d.claims.slots.toList.drop n).take 4).flatMap f) (funext hslot)
  have hlength : slots.length = 15 * min 4 (256 - n) := hslots ▸ d.shownSlots_length n
  have hclaims : d.claimsPayload n = slots ++ List.replicate ((4 - slots.length % 4) % 4) 0#8 := by
    rw [Device.claimsPayload, hslots]
    rfl
  refine ⟨hstate, hstate ▸ d.statePayload_length, hscope, hscope ▸ d.scopePayload_length p, hjournal, rfl, hregion,
    fun room => ?_, ?_, ?_, ?_⟩
  · have length : slots.length = 60 := by omega
    exact ⟨by rw [hclaims, length]; simp, length⟩
  all_goals
    rintro rfl
    exact ⟨by rw [hclaims, hlength]; rfl, hlength⟩

end Sys2Proof.Machine

/-!
Record headers and anchor copies read back, and the choice of copy at the end of COLD (O6, O45).
-/
namespace Sys2Proof.Machine

-- One proof at a time: each would otherwise hold a thread of its own.
set_option Elab.async false

/-! ## Header cells -/

theorem decodeHeader_encodeHeader (h : Header) : decodeHeader (encodeHeader h) = h := by
  simp (disch := decide) only [decodeHeader, encodeHeader, BitVec.extractLsb'_append_eq_of_add_le,
    BitVec.extractLsb'_append_eq_of_le, Nat.sub_self, BitVec.extractLsb'_eq_self]

theorem encodeHeader_decodeHeader (c : CellData) : encodeHeader (decodeHeader c) = c := by
  simp only [decodeHeader, encodeHeader]
  iterate 11 rw [BitVec.extractLsb'_append_extractLsb'_eq_extractLsb' (by decide)]
  exact BitVec.extractLsb'_eq_self

/-! ## Regions of a copy -/

theorem extract_extract {n : Nat} (x : BitVec n) (start len start' len' : Nat) (h : start' + len' ≤ len) :
    (x.extractLsb' start len).extractLsb' start' len' = x.extractLsb' (start + start') len' := by
  ext i hi
  have within : start' + i < len := by omega
  simp [BitVec.getElem_extractLsb', within, Nat.add_assoc]

theorem decodeRegion_encodeRegion {r : Region} (first : r.first < 2 ^ 32) (last : r.last < 2 ^ 32) :
    decodeRegion (encodeRegion r) = some r := by
  have attrs : (encodeRegion r).extractLsb' 64 8 = attributeByte r := BitVec.extractLsb'_append_eq_left
  have high : (encodeRegion r).extractLsb' 32 32 = BitVec.ofNat 32 r.last := by
    simp (disch := decide) only [encodeRegion, BitVec.extractLsb'_append_eq_of_add_le, BitVec.extractLsb'_append_eq_left]
  have low : (encodeRegion r).extractLsb' 0 32 = BitVec.ofNat 32 r.first := by
    simp (disch := decide) only [encodeRegion, BitVec.extractLsb'_append_eq_of_add_le, BitVec.extractLsb'_eq_self]
  have bits : ∀ allow enabled : Bool, ∀ mode : BitVec 2,
      let a : Byte := 0#4 ++ BitVec.ofBool allow ++ BitVec.ofBool enabled ++ mode
      a.extractLsb' 0 2 = mode ∧ a.getLsbD 2 = enabled ∧ a.getLsbD 3 = allow := by decide
  obtain ⟨mode, enabled, allow⟩ := bits r.allow r.enabled (BitVec.ofNat 2 (modeNum r.mode))
  have at64 : (encodeRegion r).extractLsb' 64 2 = BitVec.ofNat 2 (modeNum r.mode) := by
    rw [← mode, ← extract_extract _ 64 8 0 2 (by decide), attrs]
    rfl
  have bit (k : Nat) (hk : k < 8) : (encodeRegion r).getLsbD (64 + k) = (attributeByte r).getLsbD k := by
    rw [← attrs, BitVec.getLsbD_extractLsb']
    simp [hk]
  have at66 : (encodeRegion r).getLsbD 66 = r.enabled := (bit 2 (by decide)).trans enabled
  have at67 : (encodeRegion r).getLsbD 67 = r.allow := (bit 3 (by decide)).trans allow
  have hmode : modeOf (BitVec.ofNat 2 (modeNum r.mode)).toNat = some r.mode := by cases r.mode <;> rfl
  unfold decodeRegion
  rw [at64, high, low, at66, at67, hmode]
  simp only [BitVec.toNat_ofNat, Nat.mod_eq_of_lt first, Nat.mod_eq_of_lt last]

theorem decodeRegion_isSome {x : BitVec 72} (h : x.extractLsb' 64 2 ≠ 3#2) : ∃ r, decodeRegion x = some r := by
  unfold decodeRegion
  cases mode : modeOf (x.extractLsb' 64 2).toNat with
  | none => exact absurd ((modeOf_bits_eq_none_iff _).1 mode) h
  | some m => exact ⟨_, rfl⟩

theorem decodeRegion_some {x : BitVec 72} {r : Region} (h : decodeRegion x = some r) : x.extractLsb' 64 2 ≠ 3#2 := by
  intro three
  unfold decodeRegion at h
  rw [(modeOf_bits_eq_none_iff _).2 three] at h
  cases h

/-! ## The fields of a copy -/

/-- The setup a copy carries, its coded fields given (Table 13-3). -/
def setupAt (c : BitVec 1024) (m : Mode) (action : PerPort TimerAction) (regions : Vector Region 8) : Setup :=
  { epoch := c.extractLsb' 64 16, timeout := c.extractLsb' 80 8, defaultMode := m,
    arrayLines := (c.extractLsb' 96 32).toNat, base := (c.extractLsb' 128 32).toNat,
    lines := (c.extractLsb' 160 32).toNat, tail := (c.extractLsb' 192 32).toNat,
    tailSeq := c.extractLsb' 224 32, lowWater := (c.extractLsb' 256 32).toNat,
    limit := ⟨c.extractLsb' 288 16, c.extractLsb' 320 16⟩, action := action, regions := regions }

/-- The coded fields of a copy lie within their ranges: the default mode, the two actions, the modes of the regions. -/
def CopyCodes (c : BitVec 1024) : Prop :=
  (c.extractLsb' 88 8).toNat ≤ 2 ∧ (c.extractLsb' 304 8).toNat ≤ 1 ∧ (c.extractLsb' 336 8).toNat ≤ 1 ∧
  ∀ i : Fin 8, c.extractLsb' (8 * (44 + 9 * i.val + 8)) 2 ≠ 3#2

theorem region_mode (c : BitVec 1024) (i : Nat) :
    (c.extractLsb' (352 + 72 * i) 72).extractLsb' 64 2 = c.extractLsb' (8 * (44 + 9 * i + 8)) 2 := by
  rw [extract_extract _ _ _ _ _ (by decide)]
  congr 1
  omega

theorem decodeFields_eq {c : BitVec 1024} {m : Mode} {a0 a1 : TimerAction} {r : Fin 8 → Region}
    (mode : modeOf (c.extractLsb' 88 8).toNat = some m) (action0 : actionOf (c.extractLsb' 304 8) = some a0)
    (action1 : actionOf (c.extractLsb' 336 8) = some a1)
    (region : ∀ i : Fin 8, decodeRegion (c.extractLsb' (352 + 72 * i.val) 72) = some (r i)) :
    decodeFields c = some (setupAt c m ⟨a0, a1⟩ #v[r 0, r 1, r 2, r 3, r 4, r 5, r 6, r 7]) := by
  have region' (i : Nat) (hi : i < 8) : decodeRegion (c.extractLsb' (352 + 72 * i) 72) = some (r ⟨i, hi⟩) := region ⟨i, hi⟩
  simp only [decodeFields, mode, action0, action1, region' 0 (by decide), region' 1 (by decide), region' 2 (by decide),
    region' 3 (by decide), region' 4 (by decide), region' 5 (by decide), region' 6 (by decide), region' 7 (by decide)]
  rfl

theorem actionOf_isSome {b : Byte} (h : b.toNat ≤ 1) : ∃ a, actionOf b = some a := by
  have all : ∀ b : Byte, b.toNat ≤ 1 → b = 0#8 ∨ b = 1#8 := by decide
  rcases all b h with rfl | rfl
  · exact ⟨.alert, rfl⟩
  · exact ⟨.abandon, rfl⟩

theorem actionOf_some {b : Byte} {a : TimerAction} (h : actionOf b = some a) : b.toNat ≤ 1 := by
  by_contra big
  rw [actionOf_eq_none (Nat.lt_of_not_le big)] at h
  cases h

theorem decodeFields_of_codes {c : BitVec 1024} (h : CopyCodes c) :
    ∃ m action regions, decodeFields c = some (setupAt c m action regions) := by
  obtain ⟨mode, action0, action1, regions⟩ := h
  obtain ⟨m, mode⟩ := modeOf_isSome_of_lt (Nat.lt_succ_of_le mode)
  obtain ⟨a0, action0⟩ := actionOf_isSome action0
  obtain ⟨a1, action1⟩ := actionOf_isSome action1
  have region (i : Fin 8) : ∃ r, decodeRegion (c.extractLsb' (352 + 72 * i.val) 72) = some r :=
    decodeRegion_isSome (by rw [region_mode]; exact regions i)
  choose r region using region
  exact ⟨m, _, _, decodeFields_eq mode action0 action1 region⟩

theorem codes_of_decodeFields {c : BitVec 1024} {v : Setup} (h : decodeFields c = some v) : CopyCodes c := by
  unfold decodeFields at h
  split at h
  · next m a0 a1 mode action0 action1 =>
    refine ⟨?_, actionOf_some action0, actionOf_some action1, ?_⟩
    · by_contra big
      rw [modeOf_eq_none_of_ge (Nat.lt_of_not_le big)] at mode
      cases mode
    · dsimp only at h
      split at h
      · next r0 r1 r2 r3 r4 r5 r6 r7 h0 h1 h2 h3 h4 h5 h6 h7 =>
        have each (i : Nat) (r : Region) (hr : decodeRegion (c.extractLsb' (352 + 72 * i) 72) = some r) :
            c.extractLsb' (8 * (44 + 9 * i + 8)) 2 ≠ 3#2 := by
          rw [← region_mode]
          exact decodeRegion_some hr
        simp only [Fin.forall_fin_succ, IsEmpty.forall_iff, and_true]
        exact ⟨each 0 _ h0, each 1 _ h1, each 2 _ h2, each 3 _ h3, each 4 _ h4, each 5 _ h5, each 6 _ h6, each 7 _ h7⟩
      · cases h
  · cases h

/-! ## A copy read back -/

theorem copyLine_join (c : BitVec 1024) : copyLine c true ++ copyLine c false = c := by
  have whole : c.extractLsb' 512 512 ++ c.extractLsb' 0 512 = c.extractLsb' 0 1024 :=
    BitVec.extractLsb'_append_extractLsb'_eq_extractLsb' (by decide)
  exact whole.trans BitVec.extractLsb'_eq_self

theorem bytesOf_append {m n : Nat} (x : BitVec m) (y : BitVec n) (k : Nat) (h : 8 * k ≤ n) :
    bytesOf k (x ++ y) = bytesOf k y := by
  refine List.map_congr_left fun i hi => BitVec.extractLsb'_append_eq_of_add_le ?_
  have := List.mem_range.1 hi
  omega

theorem extract_above {m n start : Nat} (x : BitVec m) (y : BitVec n) (h : start = n) :
    (x ++ y).extractLsb' start m = x := by
  subst h
  exact BitVec.extractLsb'_append_eq_left

section
variable (g : BitVec 32) (v : Setup)

theorem encodeCopy_marker : (encodeCopy g v).extractLsb' 0 32 = Config.formatMarker := by
  simp (disch := decide) only [encodeCopy, encodeCopyBody, BitVec.extractLsb'_append_eq_of_add_le, BitVec.extractLsb'_eq_self]

theorem encodeCopy_generation : (encodeCopy g v).extractLsb' 32 32 = g := by
  simp (disch := decide) only [encodeCopy, encodeCopyBody, BitVec.extractLsb'_append_eq_of_add_le, extract_above]

theorem encodeCopy_check : (encodeCopy g v).extractLsb' 992 32 = crc32 (bytesOf 124 (encodeCopy g v)) := by
  rw [encodeCopy, BitVec.extractLsb'_append_eq_left, bytesOf_append _ _ _ (by decide)]

theorem encodeCopy_mode : (encodeCopy g v).extractLsb' 88 8 = BitVec.ofNat 8 (modeNum v.defaultMode) := by
  simp (disch := decide) only [encodeCopy, encodeCopyBody, BitVec.extractLsb'_append_eq_of_add_le, extract_above]

theorem encodeCopy_action0 : (encodeCopy g v).extractLsb' 304 8 = BitVec.ofNat 8 (actionNum v.action.p0) := by
  simp (disch := decide) only [encodeCopy, encodeCopyBody, BitVec.extractLsb'_append_eq_of_add_le, extract_above]

theorem encodeCopy_action1 : (encodeCopy g v).extractLsb' 336 8 = BitVec.ofNat 8 (actionNum v.action.p1) := by
  simp (disch := decide) only [encodeCopy, encodeCopyBody, BitVec.extractLsb'_append_eq_of_add_le, extract_above]

theorem encodeCopy_region (i : Fin 8) : (encodeCopy g v).extractLsb' (352 + 72 * i.val) 72 = encodeRegion v.regions[i] := by
  obtain ⟨i, hi⟩ := i
  interval_cases i <;>
    simp (disch := decide) only [encodeCopy, encodeCopyBody, BitVec.extractLsb'_append_eq_of_add_le, extract_above] <;> rfl

/-- The fields of a written copy that are not coded, as they are read back. -/
theorem encodeCopy_setupAt (action : PerPort TimerAction) (m : Mode) (regions : Vector Region 8) :
    setupAt (encodeCopy g v) m action regions =
      { epoch := v.epoch, timeout := v.timeout, defaultMode := m, arrayLines := v.arrayLines % 2 ^ 32,
        base := v.base % 2 ^ 32, lines := v.lines % 2 ^ 32, tail := v.tail % 2 ^ 32, tailSeq := v.tailSeq,
        lowWater := v.lowWater % 2 ^ 32, limit := v.limit, action := action, regions := regions } := by
  simp (disch := decide) only [setupAt, encodeCopy, encodeCopyBody, BitVec.extractLsb'_append_eq_of_add_le, extract_above,
    BitVec.toNat_ofNat]

end

theorem Setup.inRange_iff (v : Setup) : v.inRange = true ↔
    v.epoch ≠ 0#16 ∧ v.timeout ≠ 0#8 ∧ 1 ≤ v.arrayLines ∧ v.arrayLines ≤ 2 ^ 26 ∧ 4 ≤ v.base ∧ 256 ≤ v.lines ∧
      v.lines ≤ 262144 ∧ v.tail < 2 * v.lines ∧ v.lowWater ≤ 2 * v.lines - 9 ∧ v.base + v.lines ≤ v.arrayLines := by
  simp only [Setup.inRange, Bool.and_eq_true, decide_eq_true_eq, and_assoc]
  rfl

theorem decodeFields_encodeCopy (g : BitVec 32) {v : Setup} (range : v.inRange = true)
    (regions : ∀ i : Fin 8, v.regions[i].first < 2 ^ 32 ∧ v.regions[i].last < 2 ^ 32) :
    decodeFields (encodeCopy g v) = some v := by
  obtain ⟨-, -, -, array, -, -, lines, tail, low, inside⟩ := v.inRange_iff.1 range
  have region (i : Fin 8) : decodeRegion ((encodeCopy g v).extractLsb' (352 + 72 * i.val) 72) = some v.regions[i] := by
    rw [encodeCopy_region, decodeRegion_encodeRegion (regions i).1 (regions i).2]
  have mode : modeOf ((encodeCopy g v).extractLsb' 88 8).toNat = some v.defaultMode := by
    rw [encodeCopy_mode, modeOf_modeNum]
  have action0 : actionOf ((encodeCopy g v).extractLsb' 304 8) = some v.action.p0 := by
    rw [encodeCopy_action0, actionOf_actionNum]
  have action1 : actionOf ((encodeCopy g v).extractLsb' 336 8) = some v.action.p1 := by
    rw [encodeCopy_action1, actionOf_actionNum]
  have entries : #v[v.regions[0], v.regions[1], v.regions[2], v.regions[3], v.regions[4], v.regions[5], v.regions[6],
      v.regions[7]] = v.regions := by
    ext i hi
    interval_cases i <;> rfl
  rw [decodeFields_eq mode action0 action1 region, encodeCopy_setupAt]
  rw [Nat.mod_eq_of_lt (by omega : v.arrayLines < 2 ^ 32), Nat.mod_eq_of_lt (by omega : v.base < 2 ^ 32),
    Nat.mod_eq_of_lt (by omega : v.lines < 2 ^ 32), Nat.mod_eq_of_lt (by omega : v.tail < 2 ^ 32),
    Nat.mod_eq_of_lt (by omega : v.lowWater < 2 ^ 32)]
  exact congrArg (fun r => some { v with regions := r }) entries

/-- Settles O6: the fields of a cell and of a copy are the runs of bits they were put together from. -/
theorem storedFormatsRoundTrip : Obligations.StoredFormatsRoundTrip := by
  refine ⟨decodeHeader_encodeHeader, encodeHeader_decodeHeader, fun g v range regions => ?_⟩
  unfold decodeCopy
  simp only [copyLine_join]
  rw [if_pos ⟨encodeCopy_marker g v, encodeCopy_check g v⟩, decodeFields_encodeCopy g range regions, encodeCopy_generation]
  simp only [range, if_true]

end Sys2Proof.Machine

/-!
The validity of a copy and the choice of copy at the end of COLD (O45).
-/
namespace Sys2Proof.Machine

-- One proof at a time: each would otherwise hold a thread of its own.
set_option Elab.async false

/-! ## Validity -/

/-- The numbers of a copy lie within the ranges of Table 7-1 and the journal lies within the array. -/
def CopyNumbers (c : BitVec 1024) : Prop :=
  let word (byte : Nat) : Nat := (c.extractLsb' (8 * byte) 32).toNat
  c.extractLsb' 64 16 ≠ 0#16 ∧ c.extractLsb' 80 8 ≠ 0#8 ∧ 1 ≤ word 12 ∧ word 12 ≤ 2 ^ 26 ∧ 4 ≤ word 16 ∧ 256 ≤ word 20 ∧
  word 20 ≤ 262144 ∧ word 24 < 2 * word 20 ∧ word 32 ≤ 2 * word 20 - 9 ∧ word 16 + word 20 ≤ word 12

theorem setupAt_inRange_iff (c : BitVec 1024) (m : Mode) (action : PerPort TimerAction) (regions : Vector Region 8) :
    (setupAt c m action regions).inRange = true ↔ CopyNumbers c := Setup.inRange_iff _

/-- A copy carries the format marker and its own check (R113). -/
def CopySealed (c : BitVec 1024) : Prop :=
  c.extractLsb' 0 32 = 0x4B574A40#32 ∧ c.extractLsb' 992 32 = crc32 (bytesOf 124 c)

section
variable {x y : LineData}

theorem decodeCopy_valid (marked : CopySealed (y ++ x : BitVec 1024)) (codes : CopyCodes (y ++ x : BitVec 1024))
    (numbers : CopyNumbers (y ++ x : BitVec 1024)) :
    ∃ v, decodeCopy x y = some ((y ++ x : BitVec 1024).extractLsb' 32 32, v) := by
  obtain ⟨m, action, regions, fields⟩ := decodeFields_of_codes codes
  refine ⟨setupAt (y ++ x) m action regions, (if_pos marked).trans ?_⟩
  rw [fields]
  exact if_pos ((setupAt_inRange_iff ..).2 numbers)

theorem decodeCopy_some {z : BitVec 32 × Setup} (h : decodeCopy x y = some z) :
    CopySealed (y ++ x : BitVec 1024) ∧ CopyCodes (y ++ x : BitVec 1024) ∧ CopyNumbers (y ++ x : BitVec 1024) := by
  unfold decodeCopy at h
  dsimp only at h
  split at h
  · next marked =>
    split at h
    · next v fields =>
      split at h
      · next range =>
        have codes := codes_of_decodeFields fields
        obtain ⟨m, action, regions, fields'⟩ := decodeFields_of_codes codes
        obtain rfl : setupAt _ m action regions = v := Option.some.inj (fields'.symm.trans fields)
        exact ⟨marked, codes, (setupAt_inRange_iff ..).1 range⟩
      · cases h
    · cases h
  · cases h

end

/-! ## The choice of copy -/

theorem newerThan_iff (x y : BitVec 32) : newerThan x y = true ↔ 1 ≤ (x - y).toNat ∧ (x - y).toNat ≤ 2 ^ 31 - 1 := by
  have zero : x - y ≠ 0#32 ↔ 1 ≤ (x - y).toNat := by
    rw [← not_iff_not, not_not, ← BitVec.toNat_inj, BitVec.toNat_ofNat, Nat.zero_mod]
    omega
  rw [newerThan, Bool.and_eq_true, decide_eq_true_eq, decide_eq_true_eq, zero]
  omega

/-! ## The reads of COLD -/

/-- The part when a read of COLD has been answered, an error or a timeout noted (R126). -/
def Device.coldHeard (d : Device) (answer : Option LineData) : Device :=
  if answer = none then (d.latch .media).onRecovery fun r => { r with anchorError := true } else d

theorem Device.coldAnswer_eq (d : Device) (reads : List (Option LineData)) (answer : Option LineData) :
    d.coldAnswer reads answer =
      let e := d.coldHeard answer
      if e.part ≠ .cold then e.onAnchor fun a => { a with cold := none }
      else if reads.length + 1 < 4 then
        (e.onAnchor fun a => { a with cold := some (reads ++ [answer]) }).askAnchor (.readLine (reads.length + 1))
      else e.anchorSelect (reads ++ [answer]) := by
  simp only [Device.coldAnswer, Device.coldHeard, List.length_append, List.length_singleton]
  cases answer <;> rfl

theorem Device.deliver_cold {d : Device} {o : Outstanding} {reads : List (Option LineData)} (requester : o.requester = .anchor)
    (cold : d.anchor.cold = some reads) (answer : Option LineData) : d.deliver o answer = d.coldAnswer reads answer := by
  simp only [Device.deliver, requester, Device.anchorAnswer, cold]

section
variable (d : Device) {r0 r1 r2 r3 : Option LineData}

theorem Device.anchorSelect_none (newest : selectCopy (coldCopy r0 r1) (coldCopy r2 r3) = none) :
    d.anchorSelect [r0, r1, r2, r3] = { d with
      part := .unformatted
      anchor := { d.anchor with cold := none }
      scope := ⟨{ d.scope.p0 with limit := 0#16, action := .alert }, { d.scope.p1 with limit := 0#16, action := .alert }⟩ } := by
  simp only [Device.anchorSelect, List.getElem?_cons_zero, List.getElem?_cons_succ, Option.getD_some, newest]
  rfl

variable {copy : Copy} {g : BitVec 32} {v : Setup} {other : Bool}

theorem Device.anchorSelect_some (newest : selectCopy (coldCopy r0 r1) (coldCopy r2 r3) = some (copy, g, v, other)) :
    d.anchorSelect [r0, r1, r2, r3] =
      let loaded := (d.onAnchor fun a => { a with cold := none }).loadCopy copy g v other
      if ([r0, r1, r2, r3] : List (Option LineData)).all Option.isSome then
        Device.startRecovery { loaded with part := .recovering }
      else loaded.failRecovery .anchorRead := by
  simp only [Device.anchorSelect, List.getElem?_cons_zero, List.getElem?_cons_succ, Option.getD_some, newest]

end

/-- An access has been answered in COLD, without error or with one: what ends it (R126). -/
def ColdAnswered (o : Outstanding) (c : Instr) (data : LineData) (read : Option LineData) : Prop :=
  (c = .arrayAnswer o.number true data ∧ read = some data) ∨
    ((c = .arrayAnswer o.number false data ∨ c = .arrayResponseTimeout) ∧ read = none)

/-- The part when a read of COLD has ended, before the anchor unit goes on. -/
def coldEnded (d : Device) (c : Instr) (read : Option LineData) : Device :=
  (if read = none then failedAccess d c else portFree d).coldHeard read

theorem effect_cold {d : Device} {o : Outstanding} {reads : List (Option LineData)} {c : Instr} {data : LineData}
    {read : Option LineData} (ho : d.array.outstanding = some o) (requester : o.requester = .anchor)
    (cold : d.anchor.cold = some reads) (hc : ColdAnswered o c data read) :
    effect c d =
      let e := coldEnded d c read
      if e.part ≠ .cold then e.onAnchor fun a => { a with cold := none }
      else if reads.length + 1 < 4 then
        (e.onAnchor fun a => { a with cold := some (reads ++ [read]) }).askAnchor (.readLine (reads.length + 1))
      else e.anchorSelect (reads ++ [read]) := by
  rcases hc with ⟨rfl, rfl⟩ | ⟨hc, rfl⟩
  · refine (effect_answer ho data).trans ((Device.deliver_cold (d := portFree d) requester cold _).trans ?_)
    exact Device.coldAnswer_eq ..
  · refine (effect_failedAccess ho hc).trans ((Device.deliver_cold (d := failedAccess d c) requester cold _).trans ?_)
    exact Device.coldAnswer_eq ..

/-- What a read of COLD leaves as it was, and what one in error has noted (R126). -/
theorem coldEnded_keeps (d : Device) (c : Instr) (read : Option LineData) :
    (coldEnded d c read).part = d.part ∧ (coldEnded d c read).anchor = d.anchor ∧
    (coldEnded d c read).array = { d.array with outstanding := none } ∧ (coldEnded d c read).journal = d.journal ∧
    (read = none → (coldEnded d c read).recovery.anchorError = true ∧
      (coldEnded d c read).alerts.latches = d.alerts.latches ||| 0x040#10 ∧
      (coldEnded d c read).counters.arrayErrors = counted d.counters.arrayErrors) := by
  cases read with
  | none => exact ⟨rfl, rfl, rfl, rfl, fun _ => ⟨rfl, rfl, rfl⟩⟩
  | some data => exact ⟨rfl, rfl, rfl, rfl, nofun⟩

theorem BitVec.or_and_right_self (x m : BitVec 10) : (x ||| m) &&& m = m := by
  ext i
  simp +contextual

theorem Device.failRecovery_part_of_ne {d : Device} (running : d.part ≠ .stopping) (cause : FailCause) :
    (d.failRecovery cause).part = .failed := if_neg running

theorem Device.loadCopy_part (d : Device) (copy : Copy) (g : BitVec 32) (v : Setup) (other : Bool) :
    (d.loadCopy copy g v other).part = d.part := rfl

/-- Settles O45: the choice between two copies, the conditions on one, then the reads of COLD. -/
theorem anchorSelectionEndsCold : Obligations.AnchorSelectionEndsCold := by
  refine ⟨fun ga gb va vb => ?_, fun x y => ⟨rfl, rfl, rfl, rfl⟩, fun x y => ?_, ?_, ?_⟩
  · intro newer
    refine ⟨?_, rfl, rfl, rfl⟩
    simp only [selectCopy, newerThan_iff]
    rfl
  · intro c word valid
    have valid_iff : valid ↔ CopySealed c ∧ CopyCodes c ∧ CopyNumbers c := by
      constructor
      · rintro ⟨marker, check, epoch, timeout, mode, w1, w2, w3, w4, w5, w6, w7, action0, action1, regions, inside⟩
        exact ⟨⟨marker, check⟩, ⟨mode, action0, action1, regions⟩, epoch, timeout, w1, w2, w3, w4, w5, w6, w7, inside⟩
      · rintro ⟨⟨marker, check⟩, ⟨mode, action0, action1, regions⟩, epoch, timeout, w1, w2, w3, w4, w5, w6, w7, inside⟩
        exact ⟨marker, check, epoch, timeout, mode, w1, w2, w3, w4, w5, w6, w7, action0, action1, regions, inside⟩
    refine ⟨fun ok => ?_, fun not => ?_⟩
    · obtain ⟨marked, codes, numbers⟩ := valid_iff.1 ok
      exact decodeCopy_valid marked codes numbers
    · cases h : decodeCopy x y with
      | none => rfl
      | some z => exact absurd (valid_iff.2 (decodeCopy_some h)) not
  · intro q d o reads read data c heard ho requester cold hc
    have hheard : heard = coldEnded d c read := by cases read <;> rfl
    have answers := effect_cold ho requester cold hc
    obtain ⟨hpart, hanchor, harray, -⟩ := coldEnded_keeps d c read
    rw [hheard]
    refine ⟨fun part few => exec_eq_iff.2 ?_, fun part => exec_eq_iff.2 ?_⟩
    · refine answers.trans ((if_neg (not_not.2 (hpart.trans part))).trans ((if_pos (by omega)).trans ?_))
      rw [← hanchor]
      exact congrArg (fun a : ArrayPort => { coldEnded d c read with
        anchor := { (coldEnded d c read).anchor with cold := some (reads ++ [read]) }
        array := { a with anchorReq := some (.readLine (reads.length + 1)) } }) harray
    · refine answers.trans ((if_pos (by rw [hpart, part]; nofun)).trans ?_)
      rw [← hanchor]
      rfl
  · intro q d o r0 r1 r2 r3 data c newest ho requester cold part hc
    have answers : effect c d = (coldEnded d c r3).anchorSelect [r0, r1, r2, r3] := by
      refine (effect_cold ho requester cold hc).trans ((if_neg (not_not.2 ?_)).trans (if_neg (by simp)))
      exact (coldEnded_keeps d c r3).1.trans part
    refine (nexts_exec ..).2 ?_
    rw [answers]
    obtain ⟨hpart, hanchor, harray, hjournal, noted⟩ := coldEnded_keeps d c r3
    generalize coldEnded d c r3 = e at *
    have free : e.array.outstanding = none := by rw [harray]
    cases chosen : newest with
    | none =>
      rw [Device.anchorSelect_none e chosen]
      refine ⟨rfl, free, fun error => ?_, fun _ => ⟨rfl, ?_, rfl, rfl, hjournal⟩, fun _ _ _ _ h => nomatch h⟩
      · obtain ⟨flag, latches, counter⟩ := noted error
        exact ⟨flag, by rw [latches, BitVec.or_and_right_self], counter⟩
      · exact (congrArg ArrayPort.recoveryReq harray :)
    | some z =>
      obtain ⟨copy, g, v, other⟩ := z
      rw [Device.anchorSelect_some e chosen]
      dsimp only
      split
      · next all =>
        refine ⟨rfl, free, fun error => ?_, nofun, ?_⟩
        · simp [error] at all
        · intro copy' g' v' other' same
          cases same
          refine ⟨rfl, rfl, rfl, rfl, rfl, rfl, rfl, rfl, rfl, rfl, rfl, rfl, rfl, rfl, fun _ _ _ _ => ⟨rfl, rfl, rfl, rfl, rfl⟩,
            fun error => ?_⟩
          rcases error with rfl | rfl | rfl | rfl <;> simp at all
      · next not =>
        refine ⟨rfl, free, fun error => ?_, nofun, ?_⟩
        · obtain ⟨flag, -, counter⟩ := noted error
          exact ⟨flag, BitVec.or_and_right_self .., counter⟩
        · intro copy' g' v' other' same
          cases same
          refine ⟨rfl, rfl, rfl, rfl, rfl, rfl, rfl, rfl, rfl, rfl, rfl, rfl, rfl, rfl, fun h0 h1 h2 h3 => ?_,
            fun _ => ⟨?_, rfl, rfl, rfl, BitVec.or_or_and_both ..⟩⟩
          · simp [Option.isSome_iff_ne_none, h0, h1, h2, h3] at not
          · refine Device.failRecovery_part_of_ne ?_ _
            rw [Device.loadCopy_part, Device.onAnchor_part, hpart, part]
            nofun

end Sys2Proof.Machine

/-!
What the writes of a record leave in the array (O31).
-/
namespace Sys2Proof.Machine

-- One proof at a time: each would otherwise hold a thread of its own.
set_option Elab.async false

/-! ## Bytes, cells and lines -/

theorem halfOf_getElem (x : LineData) (second : Bool) (i : Nat) (hi : i < 256) :
    (halfOf x second)[i] = x.getLsbD ((if second then 256 else 0) + i) := by
  cases second <;> simp [halfOf]

theorem lineByte_getLsbD (x : LineData) (i : Nat) : (lineByte x (i / 8)).getLsbD (i % 8) = x.getLsbD i := by
  have low : i % 8 < 8 := Nat.mod_lt _ (by decide)
  have whole : 8 * (i / 8) + i % 8 = i := Nat.div_add_mod i 8
  simp [lineByte, low, whole]

/-- A cell is determined by the bytes of its half of the line. -/
theorem halfOf_ext {x y : LineData} {second : Bool}
    (h : ∀ k, k < 32 → lineByte x ((if second then 32 else 0) + k) = lineByte y ((if second then 32 else 0) + k)) :
    halfOf x second = halfOf y second := by
  ext i hi
  have place : ((if second then 256 else 0) + i) / 8 = (if second then 32 else 0) + i / 8 := by
    cases second <;> simp only [if_true, if_false, Bool.false_eq_true] <;> omega
  rw [halfOf_getElem, halfOf_getElem, ← lineByte_getLsbD, ← lineByte_getLsbD y, place, h (i / 8) (by omega)]

/-- A line is determined by its bytes. -/
theorem lineData_ext {x y : LineData} (h : ∀ k, k < 64 → lineByte x k = lineByte y k) : x = y := by
  ext i hi
  rw [← BitVec.getLsbD_eq_getElem, ← BitVec.getLsbD_eq_getElem, ← lineByte_getLsbD, ← lineByte_getLsbD y, h (i / 8) (by omega)]

theorem halfOf_join_first (x y : CellData) : halfOf (joinCells x y) false = x :=
  BitVec.extractLsb'_append_eq_right

theorem halfOf_join_second (x y : CellData) : halfOf (joinCells x y) true = y := BitVec.extractLsb'_append_eq_left

theorem joinCells_halves (x : LineData) : joinCells (halfOf x false) (halfOf x true) = x := by
  have whole : x.extractLsb' 256 256 ++ x.extractLsb' 0 256 = x.extractLsb' 0 512 :=
    BitVec.extractLsb'_append_extractLsb'_eq_extractLsb' (by decide)
  exact whole.trans BitVec.extractLsb'_eq_self

/-! ## A cell or a line is written -/

/-- The line old has become new by the access a (R155). -/
def Writes (a : Access) (old new : LineData) : Prop := ∀ k, k < 64 → lineByte new k = byteAfter a old k

theorem writeFull_writes {l : Nat} {x old new : LineData} (h : Writes (.writeFull l x) old new) : new = x :=
  lineData_ext h

/-- A partial-line write with the enables of one half writes the bytes of that half alone. -/
theorem half_enabled (l : Nat) (x : LineData) : ∀ k : Fin 64,
    writesByte (.writePart l 0 8 0x00000000FFFFFFFF#64 x) k = decide (k.val < 32) ∧
    writesByte (.writePart l 8 8 0xFFFFFFFF00000000#64 x) k = decide (32 ≤ k.val) := by
  have enabled : ∀ k : Fin 64,
      (decide (0 ≤ k.val / 4) && decide (k.val / 4 < 0 + 8) && (0x00000000FFFFFFFF#64).getLsbD k) = decide (k.val < 32) ∧
      (decide (8 ≤ k.val / 4) && decide (k.val / 4 < 8 + 8) && (0xFFFFFFFF00000000#64).getLsbD k) = decide (32 ≤ k.val) := by
    decide
  exact enabled

section
variable {base c : Nat} {cell : CellData} {old new : LineData} (h : Writes (writeCell base c cell) old new)
include h

theorem writeCell_even (even : c % 2 = 0) : halfOf new false = cell ∧ halfOf new true = halfOf old true := by
  rw [writeCell, if_pos even] at h
  have byte (k : Nat) (hk : k < 64) := h k hk
  simp only [byteAfter] at byte
  refine ⟨?_, halfOf_ext fun k hk => ?_⟩
  · refine (halfOf_ext fun k hk => ?_).trans (halfOf_join_first cell 0#256)
    have enabled := (half_enabled (base + c / 2) (joinCells cell 0#256) ⟨k, by omega⟩).1
    have there := byte k (by omega)
    simp only [enabled, hk, decide_true, if_true] at there
    simpa using there
  · have enabled := (half_enabled (base + c / 2) (joinCells cell 0#256) ⟨32 + k, by omega⟩).1
    have there := byte (32 + k) (by omega)
    simp only [enabled] at there
    simpa using there

theorem writeCell_odd (odd : c % 2 = 1) : halfOf new true = cell ∧ halfOf new false = halfOf old false := by
  rw [writeCell, if_neg (by omega)] at h
  have byte (k : Nat) (hk : k < 64) := h k hk
  simp only [byteAfter] at byte
  refine ⟨?_, halfOf_ext fun k hk => ?_⟩
  · refine (halfOf_ext fun k hk => ?_).trans (halfOf_join_second 0#256 cell)
    have enabled := (half_enabled (base + c / 2) (joinCells 0#256 cell) ⟨32 + k, by omega⟩).2
    have there := byte (32 + k) (by omega)
    simp only [enabled] at there
    simpa using there
  · have enabled := (half_enabled (base + c / 2) (joinCells 0#256 cell) ⟨k, by omega⟩).2
    have there := byte k (by omega)
    have low : ¬32 ≤ k := by omega
    simp only [enabled, low, decide_false] at there
    simpa using there

/-- The written cell holds what was written, and the cell beside it what it held. -/
theorem writeCell_writes : halfOf new (c % 2 == 1) = cell ∧ halfOf new (c % 2 == 0) = halfOf old (c % 2 == 0) := by
  rcases Nat.mod_two_eq_zero_or_one c with even | odd
  · simpa [even] using writeCell_even h even
  · simpa [odd] using writeCell_odd h odd

end

theorem writeCell_line (base c : Nat) (cell : CellData) : accessLine (writeCell base c cell) = base + c / 2 := by
  unfold writeCell
  split <;> rfl

/-! ## The headers of a record and of its PAD -/

theorem decodeHeader_sealHeader (h : Header) (body : Option LineData) :
    decodeHeader (sealHeader h body) = { h with check := recordCheck h body } := decodeHeader_encodeHeader _

theorem port_byte (p : Port) : BitVec.ofNat 8 p.num = match p with
    | .p0 => 0#8
    | .p1 => 1#8 := by cases p <;> rfl

theorem Journal.padFor_image (j : Journal) (line : Nat) (body : LineData) : j.padFor (.image line body) =
    if 2 * j.lines - j.head < 3 then 2 * j.lines - j.head else 0 := rfl

theorem Journal.appendWrites_unpadded {j : Journal} {i : Item} (pad : j.padFor i.record = 0) :
    j.appendWrites i = j.recordWrites i := by
  simp only [Journal.appendWrites, Journal.padWrites, pad, List.nil_append]

theorem Journal.padFor_cell {j : Journal} {i : Item} (record : ∀ line body, i.record ≠ .image line body) :
    j.padFor i.record = 0 := by
  cases h : i.record with
  | image line body => exact absurd h (record line body)
  | openScope => rfl
  | close code => rfl

/-- The writes of a record of one cell. -/
theorem Journal.appendWrites_cell {j : Journal} {i : Item} (record : ∀ line body, i.record ≠ .image line body) :
    j.appendWrites i = [writeCell j.base j.head (sealHeader (j.headerOf i) none)] := by
  have pad := Journal.padFor_cell (j := j) record
  rw [Journal.appendWrites_unpadded pad]
  simp only [Journal.recordWrites, Journal.positionFor, pad, if_true]
  split
  · rfl
  · rfl
  · next line body image => exact absurd image (record line body)

theorem Journal.padWrites_one {j : Journal} {i : Item} (pad : j.padFor i.record = 1) :
    j.padWrites i = [writeCell j.base j.head (sealHeader (j.padHeader i) none)] := by
  simp only [Journal.padWrites, pad]

theorem Journal.padWrites_two {j : Journal} {i : Item} (pad : j.padFor i.record = 2) :
    j.padWrites i = [.writeFull (j.lineOf j.head) (joinCells (sealHeader (j.padHeader i) none) 0#256)] := by
  simp only [Journal.padWrites, pad]

section
variable {j : Journal} {i : Item} {line : Nat} {body : LineData} (record : i.record = .image line body)
include record

theorem Journal.recordWrites_even (even : j.positionFor i % 2 = 0) : j.recordWrites i =
    [.writeFull (j.lineOf (j.positionFor i)) (joinCells (sealHeader (j.headerOf i) (some body)) (halfOf body false)),
      writeCell j.base (j.positionFor i + 2) (halfOf body true)] := by
  simp only [Journal.recordWrites, record, even, if_true]

theorem Journal.recordWrites_odd (odd : j.positionFor i % 2 = 1) : j.recordWrites i =
    [writeCell j.base (j.positionFor i) (sealHeader (j.headerOf i) (some body)),
      .writeFull (j.lineOf (j.positionFor i + 1)) body] := by
  simp only [Journal.recordWrites, record, odd, Nat.one_ne_zero, if_false]

/-- The writes of an IMAGE, and what they leave: its header cell, its body, and the cell beside it (R42). -/
theorem Journal.recordWrites_image (old1 old2 new1 new2 : LineData) :
    let start := j.positionFor i
    ∃ a b, j.recordWrites i = [a, b] ∧ accessLine a = j.base + start / 2 ∧ accessLine b = j.base + (start + 2) / 2 ∧
      (Writes a old1 new1 → Writes b old2 new2 →
        headerCell start new1 = sealHeader (j.headerOf i) (some body) ∧ imageBody start new1 new2 = body ∧
        (start % 2 = 0 → halfOf new2 true = halfOf old2 true) ∧ (start % 2 = 1 → halfOf new1 false = halfOf old1 false)) := by
  intro start
  rcases Nat.mod_two_eq_zero_or_one start with even | odd
  · refine ⟨_, _, Journal.recordWrites_even record even, rfl, writeCell_line .., fun ha hb => ?_⟩
    obtain rfl := writeFull_writes ha
    obtain ⟨last, beside⟩ := writeCell_even hb (by omega)
    refine ⟨?_, ?_, fun _ => beside, fun odd => by omega⟩
    · simp only [headerCell, even]
      exact halfOf_join_first ..
    · rw [imageBody, if_pos even, last, halfOf_join_second, joinCells_halves]
  · have one : ¬start % 2 = 0 := by omega
    refine ⟨_, _, Journal.recordWrites_odd record odd, writeCell_line .., ?_, fun ha hb => ?_⟩
    · have same : (start + 1) / 2 = (start + 2) / 2 := by omega
      exact congrArg (j.base + ·) same
    · obtain rfl := writeFull_writes hb
      obtain ⟨first, beside⟩ := writeCell_odd ha odd
      refine ⟨?_, if_neg one, fun even => absurd even one, fun _ => beside⟩
      simp only [headerCell, odd]
      exact first

/-- The write of a PAD, and what it leaves (R42, R59). -/
theorem Journal.padWrites_padded (old new : LineData) (short : 2 * j.lines - j.head < 3) (left : 2 * j.lines - j.head ≠ 0) :
    ∃ w, j.padWrites i = [w] ∧ accessLine w = j.base + j.head / 2 ∧ (Writes w old new →
      headerCell j.head new = sealHeader (j.padHeader i) none ∧
      (2 * j.lines - j.head = 1 → halfOf new false = halfOf old false)) := by
  have pad : j.padFor i.record = 2 * j.lines - j.head := by rw [record, Journal.padFor_image, if_pos short]
  have cases : 2 * j.lines - j.head = 1 ∨ 2 * j.lines - j.head = 2 := by omega
  rcases cases with one | two
  · have odd : j.head % 2 = 1 := by omega
    refine ⟨_, Journal.padWrites_one (pad.trans one), writeCell_line .., fun hw => ?_⟩
    obtain ⟨cell, beside⟩ := writeCell_odd hw odd
    refine ⟨?_, fun _ => beside⟩
    simp only [headerCell, odd]
    exact cell
  · have even : j.head % 2 = 0 := by omega
    refine ⟨_, Journal.padWrites_two (pad.trans two), rfl, fun hw => ?_⟩
    obtain rfl := writeFull_writes hw
    refine ⟨?_, fun one => by omega⟩
    simp only [headerCell, even]
    exact halfOf_join_first ..

end

/-- Settles O31: the writes of a record of one cell, of an IMAGE and of its PAD, and the headers they carry. -/
theorem recordsReadBack : Obligations.RecordsReadBack := by
  intro j i old1 old2 new1 new2 header toEnd padded
  have pads (line : Nat) (body : LineData) (record : i.record = .image line body) :
      (padded → j.padFor i.record = toEnd) ∧ (¬padded → j.padFor i.record = 0) := by
    rw [record, Journal.padFor_image]
    exact ⟨fun h => if_pos h.1, fun h => by split <;> omega⟩
  refine ⟨fun record => ?_, fun line body record => ?_⟩
  · have hheader : j.headerOf i = header := by
      have pad : j.padFor i.record = 0 := Journal.padFor_cell record
      simp only [Journal.headerOf, header, pad, if_true, port_byte]
      cases kind : i.record with
      | image line body => exact absurd kind (record line body)
      | openScope =>
        cases last : j.last.get i.port <;> rcases i.level with _ | _ | n <;>
          simp only [Nat.add_eq_right, Nat.reduceEqDiff, Nat.succ_ne_zero, if_true, if_false] <;> rfl
      | close code => cases last : j.last.get i.port <;> rfl
    refine ⟨_, Journal.appendWrites_cell record, writeCell_line .., fun written => ?_⟩
    obtain ⟨cell, beside⟩ := writeCell_writes written
    refine ⟨?_, beside⟩
    rw [cell, decodeHeader_sealHeader, hheader]
  · intro start image pad
    have hstart : j.positionFor i = start := by
      by_cases h : padded
      · exact (if_neg (by rw [(pads line body record).1 h]; exact h.2)).trans (if_pos h).symm
      · exact (if_pos ((pads line body record).2 h)).trans (if_neg h).symm
    have hheader : j.headerOf i = image := by
      have sequence : (if j.padFor (.image line body) = 0 then j.nextSeq else j.nextSeq + 1#32) =
          if padded then j.nextSeq + 1#32 else j.nextSeq := by
        rw [← record]
        by_cases h : padded
        · rw [if_pos h, (pads line body record).1 h, if_neg h.2]
        · rw [if_neg h, (pads line body record).2 h, if_pos rfl]
      simp only [Journal.headerOf, image, header, sequence, port_byte, record]
      cases last : j.last.get i.port <;> rfl
    have hpad (h : padded) : j.padHeader i = pad := by
      simp only [Journal.padHeader, (pads line body record).1 h, port_byte]
      rfl
    obtain ⟨a, b, writes, lineA, lineB, leaves⟩ := Journal.recordWrites_image (j := j) record old1 old2 new1 new2
    rw [hstart] at lineA lineB leaves
    refine ⟨j.padWrites i, a, b, by rw [Journal.appendWrites, writes], lineA, lineB, fun not => ?_, fun h => ?_,
      fun ha hb => ?_⟩
    · simp only [Journal.padWrites, (pads line body record).2 not]
    · obtain ⟨w, hw, lineW, left⟩ := Journal.padWrites_padded record old1 new1 h.1 h.2
      refine ⟨w, hw, lineW, fun written => ?_⟩
      obtain ⟨cell, beside⟩ := left written
      exact ⟨by rw [cell, decodeHeader_sealHeader, hpad h], beside⟩
    · obtain ⟨cell, rest⟩ := leaves ha hb
      exact ⟨by rw [cell, decodeHeader_sealHeader, hheader], rest⟩

end Sys2Proof.Machine

/-!
Refusals: a requester that waits is told, a port's own work is settled, the rest of the part stays as it was. Used for a
failed append, a failed update and the stop on PWRWARN.
-/
namespace Sys2Proof.Machine

-- One proof at a time: each would otherwise hold a thread of its own.
set_option Elab.async false

/-! ## A fold that reaches one item -/

/-- What every step of a fold keeps, and a step over one item of the list brings about, holds at the end. -/
theorem List.foldl_establishes {α β : Type} {f : β → α → β} {keeps brings : β → Prop} {items : List α} {item : α}
    (mem : item ∈ items) (keep : ∀ x ∈ items, ∀ t, keeps t → keeps (f t x)) (make : ∀ t, keeps t → brings (f t item))
    (stay : ∀ x ∈ items, ∀ t, brings t → brings (f t x)) {start : β} (h : keeps start) : brings (items.foldl f start) := by
  induction items generalizing start with
  | nil => cases mem
  | cons x rest ih =>
    rcases List.mem_cons.1 mem with rfl | mem
    · exact List.foldlRecOn rest f (make start h) fun t ht y hy => stay y (List.mem_cons_of_mem _ hy) t ht
    · exact ih mem (fun y hy => keep y (List.mem_cons_of_mem _ hy)) (fun y hy => stay y (List.mem_cons_of_mem _ hy))
        (keep x List.mem_cons_self start h)

/-! ## The first request that meets a test -/

/-- The begun MARK of a port. -/
def markTest (e : Entry) : Bool := begunStage e.stage && reqKind e.req == .mark

/-- The begun READ or WRITE of a line. -/
def lineTest (line : Nat) (e : Entry) : Bool := begunStage e.stage && reqKind e.req != .mark && reqLine e.req == line

/-- A test that no request outside the window meets. -/
def OfBegun (test : Entry → Bool) : Prop := ∀ e, begunStage e.stage = false → test e = false

theorem ofBegun_markTest : OfBegun markTest := fun e h => by simp [markTest, h]

theorem ofBegun_lineTest (line : Nat) : OfBegun (lineTest line) := fun e h => by simp [lineTest, h]

/-- The entry e, at place k, is the first of the queue that meets the test. -/
def FirstAt (q : List Entry) (test : Entry → Bool) (k : Nat) (e : Entry) : Prop :=
  q[k]? = some e ∧ test e = true ∧ ∀ i x, i < k → q[i]? = some x → test x = false

theorem firstAt_iff (q : List Entry) (test : Entry → Bool) (k : Nat) (e : Entry) :
    FirstAt q test k e ↔ q.findIdx? test = some k ∧ q[k]? = some e := by
  rw [List.findIdx?_eq_some_iff_getElem]
  constructor
  · rintro ⟨he, meets, first⟩
    obtain ⟨hk, rfl⟩ := List.getElem?_eq_some_iff.1 he
    refine ⟨⟨hk, meets, fun i hi => ?_⟩, he⟩
    simp [first i _ hi (List.getElem?_eq_getElem (by omega))]
  · rintro ⟨⟨hk, meets, first⟩, he⟩
    obtain ⟨_, rfl⟩ := List.getElem?_eq_some_iff.1 he
    refine ⟨he, meets, fun i x hi hx => ?_⟩
    obtain ⟨_, rfl⟩ := List.getElem?_eq_some_iff.1 hx
    simpa using first i hi

section
variable {q : List Entry} {test : Entry → Bool} {e : Entry} {k : Nat} (h : FirstAt q test k e)
include h

theorem FirstAt.set {n : Nat} (ne : n ≠ k) {x : Entry} (idle : test x = false) : FirstAt (q.set n x) test k e := by
  obtain ⟨he, meets, first⟩ := h
  refine ⟨by rw [List.getElem?_set_ne ne, he], meets, fun i y hi hy => ?_⟩
  by_cases same : n = i
  · subst same
    rw [List.getElem?_set_self'] at hy
    cases hq : q[n]? with
    | none => simp [hq] at hy
    | some old =>
      obtain rfl : x = y := by simpa [hq] using hy
      exact idle
  · rw [List.getElem?_set_ne same] at hy
    exact first i y hi hy

theorem FirstAt.eraseIdx {n : Nat} (ne : n ≠ k) : FirstAt (q.eraseIdx n) test (if n < k then k - 1 else k) e := by
  obtain ⟨he, meets, first⟩ := h
  split
  · next before =>
    refine ⟨?_, meets, fun i y hi hy => ?_⟩
    · rw [List.getElem?_eraseIdx, if_neg (by omega), Nat.sub_add_cancel (by omega), he]
    · rw [List.getElem?_eraseIdx] at hy
      split at hy
      · exact first i y (by omega) hy
      · exact first (i + 1) y (by omega) hy
  · next after =>
    refine ⟨?_, meets, fun i y hi hy => ?_⟩
    · rw [List.getElem?_eraseIdx, if_pos (by omega), he]
    · rw [List.getElem?_eraseIdx, if_pos (by omega)] at hy
      exact first i y hi hy

theorem FirstAt.map {f : Entry → Entry} (own : f e = e) (same : ∀ x, test (f x) = test x) : FirstAt (q.map f) test k e := by
  obtain ⟨he, meets, first⟩ := h
  refine ⟨by rw [List.getElem?_map, he, Option.map_some, own], meets, fun i y hi hy => ?_⟩
  rw [List.getElem?_map, Option.map_eq_some_iff] at hy
  obtain ⟨x, hx, rfl⟩ := hy
  rw [same, first i x hi hx]

end

/-! ## A requester waits for its response -/

/-- The response to a request stands on the path. -/
def Told (h : HostPort) (code : RespCode) (e : Entry) : Prop := ⟨e.req.tag, code, 0#512, false⟩ ∈ h.path

/-- The request has its response, or is still the first that meets the test. -/
def Waits (h : HostPort) (code : RespCode) (test : Entry → Bool) (e : Entry) : Prop :=
  Told h code e ∨ ∃ k, FirstAt h.queue test k e

theorem Told.finishAt {h : HostPort} {code : RespCode} {e : Entry} (told : Told h code e) (n : Nat) (code' : RespCode) :
    Told (h.finishAt n code' 0#512) code e := by
  unfold HostPort.finishAt
  split
  · exact told
  · split
    · exact told
    · exact List.mem_append_left _ told

theorem told_finishAt {h : HostPort} {n : Nat} {e : Entry} (he : h.queue[n]? = some e) (awake : e.withheld = false)
    (code : RespCode) : Told (h.finishAt n code 0#512) code e := by
  rw [HostPort.finishAt_eq he, answered, if_neg (by simp [awake])]
  exact List.mem_append_right _ List.mem_cons_self

section
variable {h : HostPort} {code : RespCode} {test : Entry → Bool} {e : Entry} (hw : Waits h code test e)
include hw

theorem Waits.finishAt (awake : e.withheld = false) (begun : OfBegun test) (n : Nat) :
    Waits (h.finishAt n code 0#512) code test e := by
  rcases hw with told | ⟨k, first⟩
  · exact .inl (told.finishAt n code)
  by_cases own : n = k
  · subst own
    exact .inl (told_finishAt first.1 awake code)
  refine .inr ?_
  unfold HostPort.finishAt
  split
  · exact ⟨k, first⟩
  · split
    · exact ⟨_, first.eraseIdx own⟩
    · exact ⟨k, first.set own (begun _ rfl)⟩

/-- The first request that meets the test is answered. -/
theorem Waits.told (awake : e.withheld = false) {i : Option Nat} (place : i = h.queue.findIdx? test) :
    Told (i.elim h fun i => h.finishAt i code 0#512) code e := by
  rcases hw with told | ⟨k, first⟩
  · cases i with
    | none => exact told
    | some n => exact told.finishAt n code
  · obtain ⟨found, he⟩ := (firstAt_iff ..).1 first
    rw [place, found]
    exact told_finishAt he awake code

end

theorem Waits.of_markIndex {h : HostPort} {k : Nat} {e : Entry} (found : h.markIndex = some k) (he : h.queue[k]? = some e)
    (code : RespCode) : Waits h code markTest e := .inr ⟨k, (firstAt_iff ..).2 ⟨found, he⟩⟩

theorem Waits.of_lineIndex {h : HostPort} {line k : Nat} {e : Entry} (found : h.lineIndex line = some k)
    (he : h.queue[k]? = some e) (code : RespCode) : Waits h code (lineTest line) e :=
  .inr ⟨k, (firstAt_iff ..).2 ⟨found, he⟩⟩

/-! ## Answers of the begun MARK and of the begun request of a line -/

theorem Device.answerMark_host (d : Device) (p : Port) (code : RespCode) : ((d.answerMark p code).host.get p) =
    (d.host.get p).markIndex.elim (d.host.get p) fun i => (d.host.get p).finishAt i code 0#512 := by
  simp only [Device.answerMark, Device.onHost_host, PerPort.get_set_self]
  cases (d.host.get p).markIndex <;> rfl

theorem Device.answerLine_host (d : Device) (p : Port) (line : Nat) (code : RespCode) :
    ((d.answerLine p line code 0#512).host.get p) =
      ((d.host.get p).lineIndex line).elim (d.host.get p) fun i => (d.host.get p).finishAt i code 0#512 := by
  simp only [Device.answerLine, Device.onHost_host, PerPort.get_set_self]
  cases (d.host.get p).lineIndex line <;> rfl

section
variable {d : Device} {p : Port} {code : RespCode} {test : Entry → Bool} {e : Entry}

theorem Waits.elim {h : HostPort} (hw : Waits h code test e) (awake : e.withheld = false) (begun : OfBegun test)
    (i : Option Nat) : Waits (i.elim h fun i => h.finishAt i code 0#512) code test e := by
  cases i with
  | none => exact hw
  | some n => exact hw.finishAt awake begun n

theorem Waits.answerMark (hw : Waits (d.host.get p) code test e) (awake : e.withheld = false) (begun : OfBegun test) :
    Waits ((d.answerMark p code).host.get p) code test e := by
  rw [Device.answerMark_host]
  exact hw.elim awake begun _

theorem Waits.answerLine (hw : Waits (d.host.get p) code test e) (awake : e.withheld = false) (begun : OfBegun test)
    (line : Nat) : Waits ((d.answerLine p line code 0#512).host.get p) code test e := by
  rw [Device.answerLine_host]
  exact hw.elim awake begun _

theorem told_answerMark (hw : Waits (d.host.get p) code markTest e) (awake : e.withheld = false) :
    Told ((d.answerMark p code).host.get p) code e := by
  rw [Device.answerMark_host]
  exact hw.told awake rfl

theorem told_answerLine {line : Nat} (hw : Waits (d.host.get p) code (lineTest line) e) (awake : e.withheld = false) :
    Told ((d.answerLine p line code 0#512).host.get p) code e := by
  rw [Device.answerLine_host]
  exact hw.told awake rfl

theorem Told.elim {h : HostPort} (told : Told h code e) (code' : RespCode) (i : Option Nat) :
    Told (i.elim h fun i => h.finishAt i code' 0#512) code e := by
  cases i with
  | none => exact told
  | some n => exact told.finishAt n code'

end

end Sys2Proof.Machine

/-!
What the refusal of one item changes, block by block.
-/
namespace Sys2Proof.Machine

-- One proof at a time: each would otherwise hold a thread of its own.
set_option Elab.async false

/-! ## The jobs of a port -/

/-- The rollback jobs of a port. -/
def Device.jobsAt (d : Device) (p : Port) : List Job := d.rollback.jobs.filter fun j => j.port == p

theorem Device.jobOf_eq (d : Device) (p : Port) : d.jobOf p = (d.jobsAt p).head? := (List.head?_filter ..).symm

theorem Device.forcedJob_eq (d : Device) (p : Port) : d.forcedJob p = (d.jobsAt p).any fun j => j.kind == .all := by
  simp [Device.forcedJob, Device.jobsAt, List.any_filter]

theorem Device.mem_jobsAt {d : Device} {p : Port} {x : Job} : x ∈ d.jobsAt p ↔ x ∈ d.rollback.jobs ∧ x.port = p := by
  simp [Device.jobsAt]

theorem Device.jobsAt_eq_nil_iff {d : Device} {p : Port} : d.jobsAt p = [] ↔ ∀ x ∈ d.rollback.jobs, x.port ≠ p := by
  simp [Device.jobsAt]

theorem Device.dropJob_jobsAt_own (d : Device) (j : Job) : (d.dropJob j).jobsAt j.port = [] := by
  simp [Device.jobsAt, Device.dropJob]

theorem Device.dropJob_jobsAt_other (d : Device) {j : Job} {p : Port} (other : p ≠ j.port) :
    (d.dropJob j).jobsAt p = d.jobsAt p := by
  simp only [Device.jobsAt, Device.dropJob, List.filter_filter]
  refine List.filter_congr fun x _ => ?_
  by_cases at' : x.port = p
  · simp [at', other]
  · simp [at']

theorem Device.jobOf_port {d : Device} {p : Port} {j : Job} (h : d.jobOf p = some j) : j ∈ d.rollback.jobs ∧ j.port = p := by
  rw [Device.jobOf_eq] at h
  exact Device.mem_jobsAt.1 (List.mem_of_mem_head? h)

/-! ## A claim change is undone -/

/-- An entry when its claim change has been undone (R32). -/
def undone (c : Claim) : Option Claim := if c.images = ⟨none, none, none, none⟩ then none else some { c with recording := false }

/-- An undo changes no slot but one whose entry is for the line. -/
theorem ClaimTable.undo_slot (t : ClaimTable) (line : Nat) (slot : Fin 256) :
    (t.undo line).slots[slot] = t.slots[slot] ∨
      ∃ c, ClaimedAt t line slot c ∧ (t.undo line).slots[slot] = undone c := by
  cases found : t.slotOf line with
  | none => exact .inl (by rw [ClaimTable.undo_of_unclaimed ((t.slotOf_eq_none_iff line).1 found)])
  | some s =>
    obtain ⟨c, at'⟩ := (t.slotOf_eq_some_iff line s).1 found
    rw [ClaimTable.undo_eq at']
    by_cases own : s = slot
    · subst own
      refine .inr ⟨c, at', ?_⟩
      simp only [Fin.getElem_fin, Vector.getElem_set_self]
      rfl
    · refine .inl ?_
      simp only [Fin.getElem_fin]
      exact Vector.getElem_set_ne _ _ fun h => own (Fin.ext h)

theorem undone_line {c x : Claim} (h : undone c = some x) : x.line = c.line ∧ undone x = some x := by
  unfold undone at h
  split at h
  · cases h
  · next images =>
    cases h
    exact ⟨rfl, if_neg images⟩

/-- The entries of a table are among those of another, the changes of some undone. -/
def UndoneFrom (t u : ClaimTable) : Prop :=
  ∀ slot : Fin 256, u.slots[slot] = t.slots[slot] ∨ ∃ c, t.slots[slot] = some c ∧ u.slots[slot] = undone c

theorem UndoneFrom.refl (t : ClaimTable) : UndoneFrom t t := fun _ => .inl rfl

theorem UndoneFrom.line {t u : ClaimTable} (h : UndoneFrom t u) {slot : Fin 256} {x : Claim}
    (hx : u.slots[slot] = some x) : ∃ c, t.slots[slot] = some c ∧ c.line = x.line := by
  rcases h slot with same | ⟨c, hc, changed⟩
  · exact ⟨x, same ▸ hx, rfl⟩
  · exact ⟨c, hc, (undone_line (changed.symm.trans hx)).1.symm⟩

theorem UndoneFrom.undo {t u : ClaimTable} (h : UndoneFrom t u) (line : Nat) : UndoneFrom t (u.undo line) := by
  intro slot
  rcases u.undo_slot line slot with same | ⟨x, ⟨hx, -⟩, changed⟩
  · rw [same]
    exact h slot
  · rcases h slot with was | ⟨c, hc, was⟩
    · exact .inr ⟨x, was ▸ hx, changed⟩
    · have fixed := (undone_line (was.symm.trans hx)).2
      exact .inr ⟨c, hc, by rw [changed, fixed, ← hx, was]⟩

/-- The entry of a line is settled by an undo of that line. -/
theorem UndoneFrom.undo_own {t u : ClaimTable} (h : UndoneFrom t u) {line : Nat} {slot : Fin 256} {x : Claim}
    (at' : ClaimedAt t line slot x) : (u.undo line).slots[slot] = undone x := by
  obtain ⟨hx, own, first⟩ := at'
  have before (j : Fin 256) (hj : j < slot) (y : Claim) (hy : u.slots[j] = some y) : y.line ≠ line := by
    obtain ⟨c, hc, same⟩ := h.line hy
    rw [← same]
    exact first j hj c hc
  rcases h slot with was | ⟨c, hc, was⟩
  · have at'' : ClaimedAt u line slot x := ⟨was.trans hx, own, before⟩
    rw [ClaimTable.undo_eq at'']
    simp only [Fin.getElem_fin, Vector.getElem_set_self]
    rfl
  · obtain rfl : c = x := Option.some.inj (hc.symm.trans hx)
    rcases u.undo_slot line slot with same | ⟨y, ⟨hy, -⟩, changed⟩
    · rw [same, was]
    · rw [changed, (undone_line (was.symm.trans hy)).2, ← hy, was]

/-- An entry of another line stays as it is. -/
theorem ClaimTable.undo_other {t : ClaimTable} {line : Nat} {slot : Fin 256}
    (other : ∀ x, t.slots[slot] = some x → x.line ≠ line) : (t.undo line).slots[slot] = t.slots[slot] := by
  rcases t.undo_slot line slot with same | ⟨c, ⟨hc, own, -⟩, -⟩
  · exact same
  · exact absurd own (other c hc)

/-! ## A timer that runs again -/

/-- The timer of a port may run again (R9). -/
def MayRun (part : PartState) (s : ScopePort) : Prop := s.pendingAbandon = none ∧ part ≠ .stopping

/-- The scope unit's port when its timer has run again, an expiry that is due being taken (R9, R17). -/
def rerunScope (part : PartState) (forced : Bool) (s : ScopePort) : ScopePort :=
  if s.pendingAbandon = none ∧ part ≠ .stopping then
    if expiryDue { s with running := true } = false then { s with running := true }
    else if s.scopeAction = .alert then { s with running := true, expired := true }
    else if part = .running ∧ s.state ≠ .wedged ∧ forced = false then
      { s with running := false, pendingAbandon := some .timer }
    else { s with running := true }
  else s

section
variable {part : PartState} {forced : Bool} {s : ScopePort}

theorem rerunScope_held (held : ¬MayRun part s) : rerunScope part forced s = s := if_neg held

variable (runs : MayRun part s)
include runs

theorem rerunScope_undue (undue : expiryDue { s with running := true } = false) :
    rerunScope part forced s = { s with running := true } := (if_pos runs).trans (if_pos undue)

variable (due : expiryDue { s with running := true } = true)
include due

theorem rerunScope_alert (action : s.scopeAction = .alert) :
    rerunScope part forced s = { s with running := true, expired := true } :=
  (if_pos runs).trans ((if_neg (by simp [due])).trans (if_pos action))

theorem rerunScope_abandon (action : s.scopeAction = .abandon) : rerunScope part forced s =
    if part = .running ∧ s.state ≠ .wedged ∧ forced = false then
      { s with running := false, pendingAbandon := some .timer }
    else { s with running := true } :=
  (if_pos runs).trans ((if_neg (by simp [due])).trans (if_neg (by simp [action])))

end

/-- A timer that has run again is as it is when it runs again once more. -/
theorem rerunScope_idem (part : PartState) (forced : Bool) (s : ScopePort) :
    rerunScope part forced (rerunScope part forced s) = rerunScope part forced s := by
  by_cases runs : MayRun part s
  · cases due : expiryDue { s with running := true } with
    | false =>
      rw [rerunScope_undue runs due]
      exact rerunScope_undue (s := { s with running := true }) runs due
    | true =>
      cases action : s.scopeAction with
      | alert =>
        rw [rerunScope_alert runs due action]
        exact rerunScope_undue (s := { s with running := true, expired := true }) runs (by simp [expiryDue])
      | abandon =>
        rw [rerunScope_abandon runs due action]
        split
        · exact rerunScope_held fun h => by simp [MayRun] at h
        · next not =>
          exact (rerunScope_abandon (s := { s with running := true }) runs due action).trans (if_neg not)
  · rw [rerunScope_held runs, rerunScope_held runs]

/-- The part when the timer of port p has run again. -/
def Device.rerun (d : Device) (p : Port) (alerts : AlertUnit) : Device :=
  { d with scope := d.scope.set p (rerunScope d.part (d.forcedJob p) (d.scope.get p)), alerts := alerts }

theorem Device.rerunTimer_held {d : Device} {p : Port} (held : ¬MayRun d.part (d.scope.get p)) :
    d.rerunTimer p = d.rerun p d.alerts := by
  rw [Device.rerun, rerunScope_held held, PerPort.set_get]
  exact if_neg held

section
variable {d : Device} {p : Port} (runs : MayRun d.part (d.scope.get p))
include runs

theorem Device.rerunTimer_runs : d.rerunTimer p =
    let t := d.onScope p fun s => { s with running := true }
    if expiryDue { d.scope.get p with running := true } then t.takeExpiry p else t := by
  refine (if_pos runs).trans ?_
  dsimp only
  rw [Device.onScope_scope, PerPort.get_set_self]

theorem Device.rerunTimer_undue (undue : expiryDue { d.scope.get p with running := true } = false) :
    d.rerunTimer p = d.rerun p d.alerts := by
  rw [Device.rerunTimer_runs runs, Device.rerun, rerunScope_undue runs undue]
  exact if_neg (by simp [undue])

theorem Device.rerunTimer_due (due : expiryDue { d.scope.get p with running := true } = true) :
    d.rerunTimer p = d.rerun p (d.latch (.aged p)).alerts := by
  have takes : d.rerunTimer p = (d.onScope p fun s => { s with running := true }).takeExpiry p :=
    (Device.rerunTimer_runs runs).trans (if_pos due)
  cases action : (d.scope.get p).scopeAction with
  | alert =>
    rw [takes, Device.takeExpiry_alert (by simpa using action), Device.rerun, rerunScope_alert runs due action]
    simp [Device.onScope, Device.latch]
  | abandon =>
    rw [takes, Device.takeExpiry_abandon (by simpa using action), Device.rerun,
      rerunScope_abandon runs due action]
    by_cases takeable : d.part = .running ∧ (d.scope.get p).state ≠ .wedged ∧ d.forcedJob p = false
    · rw [if_pos takeable]
      refine (if_pos ⟨takeable.1, by simpa using takeable.2.1, by simpa using runs.1, takeable.2.2⟩).trans ?_
      simp [Device.onScope, Device.latch]
    · rw [if_neg takeable]
      refine (if_neg fun ⟨running, state, _, free⟩ => takeable ⟨running, by simpa using state, free⟩).trans ?_
      simp [Device.onScope, Device.latch]

end

/-- All the rerun of a timer can change is the scope unit's port and the alerts. -/
theorem Device.rerunTimer_spec (d : Device) (p : Port) : ∃ alerts, d.rerunTimer p = d.rerun p alerts ∧
    (MayRun d.part (d.scope.get p) → expiryDue { d.scope.get p with running := true } = true →
      alerts = (d.latch (.aged p)).alerts) := by
  by_cases runs : MayRun d.part (d.scope.get p)
  · cases due : expiryDue { d.scope.get p with running := true } with
    | false => exact ⟨_, Device.rerunTimer_undue runs due, nofun⟩
    | true => exact ⟨_, Device.rerunTimer_due runs due, fun _ _ => rfl⟩
  · exact ⟨_, Device.rerunTimer_held runs, fun h => absurd h runs⟩

/-! ## A refused job -/

/-- What a failed CLOSE record of a job leaves (R103, R13, R11, R21). -/
structure JobRefused (d : Device) (j : Job) (t : Device) : Prop where
  jobs : t.rollback.jobs = (d.dropJob j).rollback.jobs
  scope : t.scope = d.scope.set j.port { d.scope.get j.port with state := .wedged, running := false, resetNoted := false }
  alerts : t.alerts = (d.latch (.wedged j.port)).alerts
  level : ∀ l, j.kind = .level l → t.link = d.link ∧ t.host = (d.answerMark j.port .journalFault).host
  all : j.kind = .all → t.host = d.host ∧
    t.link = toldOf d.link (.force j.port) .media (forceCounts (d.scope.get j.port).stack.length j.restored)
  rest : t.journal = d.journal ∧ t.array = d.array ∧ t.counters = d.counters ∧ t.anchor = d.anchor ∧ t.part = d.part ∧
    t.claims = d.claims ∧ t.recovery = d.recovery

theorem Device.endJob_appendFailed (d : Device) (j : Job) : JobRefused d j (d.endJob j .appendFailed) := by
  cases kind : j.kind with
  | level l =>
    rw [(Device.endJob_level_failed kind).2]
    exact ⟨rfl, rfl, rfl, fun _ _ => ⟨rfl, rfl⟩, fun h => by simp [kind] at h, rfl, rfl, rfl, rfl, rfl, rfl, rfl⟩
  | all =>
    rw [Device.endJob_all_failed kind (.inr rfl), Device.forceReply_eq]
    exact ⟨rfl, rfl, rfl, fun _ h => by simp [kind] at h, fun _ => ⟨rfl, rfl⟩, rfl, rfl, rfl, rfl, rfl, rfl, rfl⟩

/-! ## The refusal of one item -/

/-- A refused item whose timer runs again: the CLOSE of a level-1 scope of a marker (R9). -/
def Reruns (i : Item) : Prop := i.source = .marker ∧ (∃ code, i.record = .close code) ∧ i.level = 1

/-- What the refusal of an item does to the part, by who handed the item over. -/
inductive RefusedAs (d : Device) (code : RespCode) (i : Item) : Device → Prop where
  | image (line : Nat) (body : LineData) (source : i.source = .write) (record : i.record = .image line body) :
      RefusedAs d code i (Device.answerLine { d with claims := d.claims.undo line } i.port line code 0#512)
  | nothing (source : i.source = .write) (record : ∀ line body, i.record ≠ .image line body) : RefusedAs d code i d
  | mark (source : i.source = .marker) (stays : ¬Reruns i) : RefusedAs d code i (d.answerMark i.port code)
  | close (reruns : Reruns i) : RefusedAs d code i ((d.answerMark i.port code).rerunTimer i.port)
  | noJob (source : i.source = .rollback) (none : d.jobOf i.port = none) : RefusedAs d code i d
  | job (j : Job) (source : i.source = .rollback) (found : d.jobOf i.port = some j) :
      RefusedAs d code i (d.endJob j .appendFailed)
  | recovery (source : i.source = .recovery) : RefusedAs d code i (d.failRecovery .closeAppend)

theorem Device.refuseItem_as (d : Device) (code : RespCode) (i : Item) : RefusedAs d code i (d.refuseItem code i) := by
  cases source : i.source with
  | write =>
    cases record : i.record with
    | image line body =>
      simp only [Device.refuseItem, source, record]
      exact .image line body source record
    | openScope =>
      simp only [Device.refuseItem, source, record]
      exact .nothing source (by simp [record])
    | close c =>
      simp only [Device.refuseItem, source, record]
      exact .nothing source (by simp [record])
  | marker =>
    cases record : i.record with
    | image line body =>
      simp only [Device.refuseItem, source, record]
      exact .mark source fun h => by simp [Reruns, record] at h
    | openScope =>
      simp only [Device.refuseItem, source, record]
      exact .mark source fun h => by simp [Reruns, record] at h
    | close c =>
      simp only [Device.refuseItem, source, record]
      split
      · next one => exact .close ⟨source, ⟨c, record⟩, one⟩
      · next other => exact .mark source fun h => other h.2.2
  | rollback =>
    simp only [Device.refuseItem, source, Device.rollbackRefused]
    split
    · next none => exact .noJob source none
    · next j found => exact .job j source found
  | recovery =>
    simp only [Device.refuseItem, source]
    exact .recovery source

end Sys2Proof.Machine

/-!
The refusal of every item (R60): a failed update and a failed append (O43, O35).
-/
namespace Sys2Proof.Machine

-- One proof at a time: each would otherwise hold a thread of its own.
set_option Elab.async false

/-! ## What one refusal keeps -/

/-- What a port keeps as its requests are answered with a code. -/
def Closed (code : RespCode) (P : HostPort → Prop) : Prop := ∀ h n, P h → P (h.finishAt n code 0#512)

theorem closed_told (code : RespCode) (e : Entry) (code' : RespCode) : Closed code' fun h => Told h code e :=
  fun _ n told => told.finishAt n code'

theorem closed_waits {e : Entry} (awake : e.withheld = false) {test : Entry → Bool} (begun : OfBegun test) (code : RespCode) :
    Closed code fun h => Waits h code test e := fun _ n hw => hw.finishAt awake begun n

section
variable {d : Device} {p : Port} {code : RespCode} {P : HostPort → Prop} (closed : Closed code P) (h : P (d.host.get p))
include closed h

theorem Closed.elim (i : Option Nat) : P (i.elim (d.host.get p) fun i => (d.host.get p).finishAt i code 0#512) := by
  cases i with
  | none => exact h
  | some n => exact closed _ n h

theorem Closed.answerMark (r : Port) : P ((d.answerMark r code).host.get p) := by
  by_cases own : p = r
  · subst own
    rw [Device.answerMark_host]
    exact closed.elim h _
  · rwa [Device.answerMark, Device.onHost_host, PerPort.get_set_of_ne _ _ own]

theorem Closed.answerLine (r : Port) (line : Nat) : P ((d.answerLine r line code 0#512).host.get p) := by
  by_cases own : p = r
  · subst own
    rw [Device.answerLine_host]
    exact closed.elim h _
  · rwa [Device.answerLine, Device.onHost_host, PerPort.get_set_of_ne _ _ own]

end

/-- What the refusal of an item leaves as it was while the journal is FAULTED. -/
structure Spared (d t : Device) : Prop where
  journal : t.journal = d.journal
  array : t.array = d.array
  counters : t.counters = d.counters
  anchor : t.anchor = d.anchor
  link : (∀ p, d.link.slot ≠ .working (.force p)) → t.link = d.link

theorem Spared.refl (d : Device) : Spared d d := ⟨rfl, rfl, rfl, rfl, fun _ => rfl⟩

theorem Spared.trans {a b c : Device} (h : Spared a b) (g : Spared b c) : Spared a c :=
  ⟨g.journal.trans h.journal, g.array.trans h.array, g.counters.trans h.counters, g.anchor.trans h.anchor, fun free =>
    (g.link fun p => by rw [h.link free]; exact free p).trans (h.link free)⟩

section
variable {d t : Device} {i : Item}

theorem RefusedAs.host_of {code : RespCode} (h : RefusedAs d code i t) (engine : i.source = .rollback → code = .journalFault)
    {P : HostPort → Prop} (closed : Closed code P) {p : Port} (hp : P (d.host.get p)) : P (t.host.get p) := by
  cases h with
  | image line body => exact closed.answerLine (d := { d with claims := d.claims.undo line }) hp _ _
  | nothing => exact hp
  | mark => exact closed.answerMark hp _
  | close =>
    obtain ⟨_, rerun, -⟩ := Device.rerunTimer_spec (d.answerMark i.port code) i.port
    rw [rerun]
    exact closed.answerMark hp _
  | noJob => exact hp
  | job j source =>
    have refused := d.endJob_appendFailed j
    obtain rfl := engine source
    cases kind : j.kind with
    | level l =>
      rw [(refused.level l kind).2]
      exact closed.answerMark hp _
    | all =>
      rw [(refused.all kind).1]
      exact hp
  | recovery => exact hp

theorem RefusedAs.host (h : RefusedAs d .journalFault i t) {P : HostPort → Prop} (closed : Closed .journalFault P) {p : Port}
    (hp : P (d.host.get p)) : P (t.host.get p) := h.host_of (fun _ => rfl) closed hp

variable {code : RespCode} (h : RefusedAs d code i t)
include h

theorem RefusedAs.claims : UndoneFrom d.claims t.claims := by
  cases h with
  | image line body => exact (UndoneFrom.refl _).undo line
  | nothing => exact .refl _
  | mark => exact .refl _
  | close =>
    obtain ⟨_, rerun, -⟩ := Device.rerunTimer_spec (d.answerMark i.port code) i.port
    rw [rerun]
    exact .refl _
  | noJob => exact .refl _
  | job j =>
    obtain ⟨-, -, -, -, -, claims, -⟩ := (d.endJob_appendFailed j).rest
    rw [claims]
    exact .refl _
  | recovery => exact .refl _

/-- The slot of no line that a refused write names stays. -/
theorem RefusedAs.slot {slot : Fin 256} (other : i.source = .write → ∀ line body, i.record = .image line body →
    ∀ x, d.claims.slots[slot] = some x → x.line ≠ line) : t.claims.slots[slot] = d.claims.slots[slot] := by
  cases h with
  | image line body source record => exact ClaimTable.undo_other (other source line body record)
  | nothing => rfl
  | mark => rfl
  | close =>
    obtain ⟨_, rerun, -⟩ := Device.rerunTimer_spec (d.answerMark i.port code) i.port
    rw [rerun]
    rfl
  | noJob => rfl
  | job j =>
    obtain ⟨-, -, -, -, -, claims, -⟩ := (d.endJob_appendFailed j).rest
    rw [claims]
  | recovery => rfl

theorem RefusedAs.part (source : i.source ≠ .recovery) : t.part = d.part := by
  cases h with
  | image => rfl
  | nothing => rfl
  | mark => rfl
  | close =>
    obtain ⟨_, rerun, -⟩ := Device.rerunTimer_spec (d.answerMark i.port code) i.port
    rw [rerun]
    rfl
  | noJob => rfl
  | job j => exact (d.endJob_appendFailed j).rest.2.2.2.2.1
  | recovery at' => exact absurd at' source

theorem RefusedAs.jobs {p : Port} (other : i.source = .rollback → i.port ≠ p) : t.jobsAt p = d.jobsAt p := by
  cases h with
  | image => rfl
  | nothing => rfl
  | mark => rfl
  | close =>
    obtain ⟨_, rerun, -⟩ := Device.rerunTimer_spec (d.answerMark i.port code) i.port
    rw [rerun]
    rfl
  | noJob => rfl
  | job j source found =>
    have port : j.port = i.port := (Device.jobOf_port found).2
    have drops : (d.endJob j .appendFailed).jobsAt p = (d.dropJob j).jobsAt p :=
      congrArg (fun jobs : List Job => jobs.filter fun x : Job => x.port == p) (d.endJob_appendFailed j).jobs
    rw [drops, Device.dropJob_jobsAt_other _ fun own => other source (port.symm.trans own.symm)]
  | recovery => rfl

theorem RefusedAs.scope {p : Port} (engine : i.source = .rollback → i.port ≠ p) (timer : Reruns i → i.port ≠ p) :
    t.scope.get p = d.scope.get p := by
  cases h with
  | image => rfl
  | nothing => rfl
  | mark => rfl
  | close reruns =>
    obtain ⟨_, rerun, -⟩ := Device.rerunTimer_spec (d.answerMark i.port code) i.port
    rw [rerun]
    exact PerPort.get_set_of_ne _ _ (timer reruns).symm
  | noJob => rfl
  | job j source found =>
    have port : j.port = i.port := (Device.jobOf_port found).2
    rw [(d.endJob_appendFailed j).scope, PerPort.get_set_of_ne _ _ fun own => engine source (port.symm.trans own.symm)]
  | recovery => rfl

/-- The timer of a port whose level-1 CLOSE is refused runs again (R9). -/
theorem RefusedAs.rerun (reruns : Reruns i) :
    t.scope.get i.port = rerunScope d.part (d.forcedJob i.port) (d.scope.get i.port) ∧
    (MayRun d.part (d.scope.get i.port) → expiryDue { d.scope.get i.port with running := true } = true →
      t.alerts.latches.getLsbD i.port.num = true) := by
  cases h with
  | close =>
    obtain ⟨_, rerun, latched⟩ := Device.rerunTimer_spec (d.answerMark i.port code) i.port
    rw [rerun]
    refine ⟨PerPort.get_set_self .., fun runs due => ?_⟩
    have alerts := latched runs due
    rw [Device.rerun, alerts, Device.latch_getLsbD]
    simp [latchBit]
  | image _ _ source => exact absurd (source.symm.trans reruns.1) nofun
  | nothing source => exact absurd (source.symm.trans reruns.1) nofun
  | mark _ stays => exact absurd reruns stays
  | noJob source => exact absurd (source.symm.trans reruns.1) nofun
  | job _ source => exact absurd (source.symm.trans reruns.1) nofun
  | recovery source => exact absurd (source.symm.trans reruns.1) nofun

theorem RefusedAs.spared (faulted : d.journal.faulted = true) : Spared d t := by
  cases h with
  | image => exact ⟨rfl, rfl, rfl, rfl, fun _ => rfl⟩
  | nothing => exact .refl d
  | mark => exact ⟨rfl, rfl, rfl, rfl, fun _ => rfl⟩
  | close =>
    obtain ⟨_, rerun, -⟩ := Device.rerunTimer_spec (d.answerMark i.port code) i.port
    rw [rerun]
    exact ⟨rfl, rfl, rfl, rfl, fun _ => rfl⟩
  | noJob => exact .refl d
  | job j =>
    have refused := d.endJob_appendFailed j
    obtain ⟨journal, array, counters, anchor, -⟩ := refused.rest
    refine ⟨journal, array, counters, anchor, fun free => ?_⟩
    cases kind : j.kind with
    | level l => exact (refused.level l kind).1
    | all => rw [(refused.all kind).2, toldOf, if_neg (free j.port)]
  | recovery => exact ⟨by rw [Device.failRecovery_eq, ← faulted], rfl, rfl, rfl, fun _ => rfl⟩

end

/-! ## Every item is refused -/

/-- The items given are refused JOURNAL_FAULT in turn (R60). -/
def Device.refuseAll (d : Device) (items : List Item) : Device := items.foldl (fun d i => d.refuseItem .journalFault i) d

section
variable {d : Device} {items : List Item}

/-- What each refusal keeps, all keep. -/
theorem Device.refuseAll_keeps {P : Device → Prop} (h : P d)
    (keep : ∀ i ∈ items, ∀ a t, P a → RefusedAs a .journalFault i t → P t) : P (d.refuseAll items) :=
  List.foldlRecOn items _ h fun a ha i hi => keep i hi a _ ha (a.refuseItem_as _ i)

/-- What each refusal keeps, and that of one item brings about. -/
theorem Device.refuseAll_brings {P Q : Device → Prop} {i : Item} (mem : i ∈ items) (h : P d)
    (keep : ∀ x ∈ items, ∀ a t, P a → RefusedAs a .journalFault x t → P t)
    (make : ∀ a t, P a → RefusedAs a .journalFault i t → Q t)
    (stay : ∀ x ∈ items, ∀ a t, Q a → RefusedAs a .journalFault x t → Q t) : Q (d.refuseAll items) :=
  List.foldl_establishes mem (fun x hx a ha => keep x hx a _ ha (a.refuseItem_as _ x))
    (fun a ha => make a _ ha (a.refuseItem_as _ i)) (fun x hx a ha => stay x hx a _ ha (a.refuseItem_as _ x)) h

theorem Device.refuseAll_spared (faulted : d.journal.faulted = true) : Spared d (d.refuseAll items) := by
  have both : Spared d (d.refuseAll items) ∧ (d.refuseAll items).journal.faulted = true :=
    Device.refuseAll_keeps (P := fun t => Spared d t ∧ t.journal.faulted = true) ⟨.refl d, faulted⟩
      fun i _ a t ⟨spared, still⟩ as => by
        have step := as.spared still
        exact ⟨spared.trans step, by rw [step.journal, still]⟩
  exact both.1

theorem Device.refuseAll_latches : d.alerts.latches ||| (d.refuseAll items).alerts.latches =
    (d.refuseAll items).alerts.latches :=
  (List.foldlRecOn items _ (Moves.refl d) fun _ ha i _ => ha.refuseItem _ i : Moves d (d.refuseAll items)).latches

end

/-- A latch that is set when the refusals begin is set when they end (R169). -/
theorem Device.refuseAll_latched {d : Device} {m : BitVec 10} (h : d.alerts.latches &&& m = m) (items : List Item) :
    (d.refuseAll items).alerts.latches &&& m = m := by
  rw [← Device.refuseAll_latches (items := items)]
  ext n hn
  have bit := congrArg (fun x : BitVec 10 => x.getLsbD n) h
  simp only [BitVec.getLsbD_and] at bit
  simp only [← BitVec.getLsbD_eq_getElem, BitVec.getLsbD_and, BitVec.getLsbD_or]
  cases hm : m.getLsbD n <;> simp_all

theorem Device.refuseQueue_eq (d : Device) : d.refuseQueue =
    Device.refuseAll { d with journal := { d.journal with queue := [], held := none } } d.journal.queue := rfl

/-! ## A failed update -/

/-- The part when an update made in RUNNING has failed, the queue not yet refused (R118). -/
def Device.updateLost (d : Device) : Device := { d with
  anchor := d.anchor.copyFailed.endCovered
  journal := { d.journal with faulted := true, queue := [], held := none }
  alerts := { d.alerts with latches := (d.alerts.latches ||| 0x008#10) ||| 0x040#10 } }

theorem Device.updateFailed_eq (d : Device) : d.updateFailed =
    if d.anchor.linkReq = .covered then (d.updateLost.refuseAll d.journal.queue).updateReply .media
    else d.updateLost.refuseAll d.journal.queue := rfl

theorem Device.copyWriteFailed_running {d : Device} {u : Update} (purpose : u.purpose = .running) :
    d.copyWriteFailed u = d.updateFailed := by
  simp only [Device.copyWriteFailed, purpose]

/-- What a failed update leaves, but for the slot of the link (R118). -/
theorem Device.updateFailed_keeps (d : Device) :
    d.updateFailed.anchor = d.anchor.copyFailed.endCovered ∧
    d.updateFailed.journal = { d.journal with faulted := true, queue := [], held := none } ∧
    d.updateFailed.alerts.latches &&& 0x048#10 = 0x048#10 ∧ d.updateFailed.counters = d.counters := by
  have spared : Spared d.updateLost (d.updateLost.refuseAll d.journal.queue) := Device.refuseAll_spared rfl
  have latched := Device.refuseAll_latched (d := d.updateLost) (BitVec.or_or_and_both ..) d.journal.queue
  rw [Device.updateFailed_eq]
  split
  · rw [Device.updateReply_eq]
    exact ⟨spared.anchor, spared.journal, latched, spared.counters⟩
  · exact ⟨spared.anchor, spared.journal, latched, spared.counters⟩

/-- The management command that a failed update covers is answered MEDIA (R119). -/
theorem Device.updateFailed_slot {d : Device} (free : ∀ p, d.link.slot ≠ .working (.force p)) :
    d.updateFailed.link.slot =
      if d.anchor.linkReq = .covered ∧ d.link.slot = .working .update then .ready .media [] else d.link.slot := by
  have spared : Spared d.updateLost (d.updateLost.refuseAll d.journal.queue) := Device.refuseAll_spared rfl
  have link : (d.updateLost.refuseAll d.journal.queue).link = d.link := spared.link free
  rw [Device.updateFailed_eq]
  by_cases told : d.anchor.linkReq = .covered
  · rw [if_pos told, Device.updateReply_eq, link, toldOf]
    by_cases slot : d.link.slot = .working .update <;> simp [told, slot]
  · rw [if_neg told, link, if_neg fun h => told h.1]

/-- Settles O43, by the line of the update that is answered. -/
theorem anchorUpdateEnds : Obligations.AnchorUpdateEnds := by
  intro q d o u data a line reply ho requester cold update purpose recovery
  have done : effect (.arrayAnswer o.number true data) d = (portFree d).copyLineDone u :=
    (effect_answer ho data).trans (Device.deliver_copy (d := portFree d) requester cold update _)
  refine ⟨fun first => exec_eq_iff.2 ?_, fun second => (nexts_exec ..).2 ?_, fun c hc => (nexts_exec ..).2 ?_⟩
  · exact done.trans (Device.copyLineDone_first first)
  · have durable := done.trans ((Device.copyLineDone_running second purpose).trans
      (Device.updateDurable_running (d := portFree d) recovery))
    obtain ⟨hold, released⟩ := d.journal.releaseHold_spec (decide (d.anchor.writerReq = .covered))
    obtain ⟨w, checked⟩ := lagChecked_spec ((portFree d).updateTaken u)
    have slot : reply .done ((portFree d).updateTaken u).link.slot := by
      change (if d.anchor.linkReq = .covered then toldOf d.link .update .done [] else d.link).slot = _
      by_cases told : d.anchor.linkReq = .covered <;> by_cases working : d.link.slot = .working .update <;>
        simp [toldOf, told, working, a]
    have journal : ((portFree d).updateTaken u).journal =
        { d.journal with held := hold, tail := u.values.tail, tailSeq := u.values.tailSeq } :=
      congrArg (fun j : Journal => { j with tail := u.values.tail, tailSeq := u.values.tailSeq }) released
    rw [durable, checked]
    exact ⟨rfl, rfl, rfl, rfl, rfl, rfl, rfl, (congrArg Journal.head journal :),
      (congrArg Journal.queue journal :), rfl, slot, rfl, rfl, rfl, rfl, rfl⟩
  · have failed : effect c d = (failedAccess d c).updateFailed := (effect_failedAccess ho hc).trans
      ((Device.deliver_copy (d := failedAccess d c) requester cold update _).trans (Device.copyWriteFailed_running purpose))
    obtain ⟨anchor, journal, latched, counters⟩ := (failedAccess d c).updateFailed_keeps
    rw [failed]
    dsimp only
    rw [anchor]
    exact ⟨rfl, rfl, rfl, rfl, rfl, journal, latched, fun free => Device.updateFailed_slot (d := failedAccess d c) free,
      counters⟩

end Sys2Proof.Machine

/-!
A failed append write: every item is refused and its requester told (O35).
-/
namespace Sys2Proof.Machine

-- One proof at a time: each would otherwise hold a thread of its own.
set_option Elab.async false

/-! ## The failed append -/

section
variable {d : Device} {j : Journal}

theorem Device.rerunTimer_setJournal (p : Port) :
    Device.rerunTimer { d with journal := j } p = { d.rerunTimer p with journal := j } := by
  by_cases runs : MayRun d.part (d.scope.get p)
  · cases due : expiryDue { d.scope.get p with running := true } with
    | false => rw [Device.rerunTimer_undue runs due, Device.rerunTimer_undue (d := { d with journal := j }) runs due]; rfl
    | true => rw [Device.rerunTimer_due runs due, Device.rerunTimer_due (d := { d with journal := j }) runs due]; rfl
  · rw [Device.rerunTimer_held runs, Device.rerunTimer_held (d := { d with journal := j }) runs]; rfl

theorem Device.endJob_setJournal (job : Job) : Device.endJob { d with journal := j } job .appendFailed =
    { d.endJob job .appendFailed with journal := j } := by
  cases kind : job.kind with
  | level l => rw [(Device.endJob_level_failed kind).2, (Device.endJob_level_failed kind).2]; rfl
  | all =>
    rw [Device.endJob_all_failed kind (.inr rfl), Device.endJob_all_failed kind (.inr rfl), Device.forceReply_eq,
      Device.forceReply_eq]
    rfl

/-- A refusal does not read the queue, nor change a journal that is FAULTED. -/
theorem Device.refuseItem_setJournal (faulted : j.faulted = true) (code : RespCode) (i : Item) :
    Device.refuseItem { d with journal := j } code i = { d.refuseItem code i with journal := j } := by
  cases source : i.source with
  | write =>
    cases record : i.record with
    | image line body => simp only [Device.refuseItem, source, record]; rfl
    | openScope => simp only [Device.refuseItem, source, record]
    | close c => simp only [Device.refuseItem, source, record]
  | marker =>
    cases record : i.record with
    | close c =>
      simp only [Device.refuseItem, source, record]
      split
      · exact Device.rerunTimer_setJournal (d := d.answerMark i.port code) i.port
      · rfl
    | openScope => simp only [Device.refuseItem, source, record]; rfl
    | image line body => simp only [Device.refuseItem, source, record]; rfl
  | rollback =>
    have same : Device.jobOf { d with journal := j } i.port = d.jobOf i.port := rfl
    simp only [Device.refuseItem, source, Device.rollbackRefused, same]
    cases d.jobOf i.port with
    | none => rfl
    | some job => exact Device.endJob_setJournal job
  | recovery =>
    simp only [Device.refuseItem, source, Device.recoveryRefused, Device.failRecovery_eq]
    rw [← faulted]

end

/-- The part when a write of the append in progress has failed, nothing yet refused (R60). -/
def Device.appendLost (d : Device) : Device := { d with
  journal := { d.journal with faulted := true, queue := [], held := none, append := none }
  alerts := { d.alerts with latches := (d.alerts.latches ||| 0x008#10) ||| 0x040#10 } }

theorem Device.appendFailed_eq (d : Device) (a : Append) :
    d.appendFailed a = d.appendLost.refuseAll (a.item :: d.journal.queue) := by
  have first : Device.refuseItem d.appendLost .journalFault a.item = { Device.refuseItem
      (Device.faultJournal { d with journal := { d.journal with append := none } }) .journalFault a.item with
        journal := d.appendLost.journal } :=
    Device.refuseItem_setJournal (d := Device.faultJournal { d with journal := { d.journal with append := none } }) rfl ..
  have journal := ((Device.refuseItem_as (Device.faultJournal { d with journal := { d.journal with append := none } })
    .journalFault a.item).spared rfl).journal
  rw [Device.refuseAll, List.foldl_cons, first, Device.appendFailed, Device.refuseQueue_eq, journal]
  rfl

theorem effect_appendFails {d : Device} {o : Outstanding} {a : Append} {c : Instr} {data : LineData}
    (ho : d.array.outstanding = some o) (requester : o.requester = .journal) (append : d.journal.append = some a)
    (hc : c = .arrayAnswer o.number false data ∨ c = .arrayResponseTimeout) :
    effect c d = (failedAccess d c).appendLost.refuseAll (a.item :: d.journal.queue) := by
  have append' : (failedAccess d c).journal.append = some a := append
  rw [effect_failedAccess ho hc]
  simp only [Device.deliver, requester, Device.journalAnswer, append', Device.appendFailed_eq]
  rfl

/-! ## The requesters are told -/

section
variable {d t : Device} {i : Item} {e : Entry} {code : RespCode} (awake : e.withheld = false)
include awake

theorem RefusedAs.toldMark (h : RefusedAs d code i t) (source : i.source = .marker)
    (hw : Waits (d.host.get i.port) code markTest e) : Told (t.host.get i.port) code e := by
  have told := told_answerMark hw awake
  cases h with
  | mark => exact told
  | close =>
    obtain ⟨_, rerun, -⟩ := Device.rerunTimer_spec (d.answerMark i.port code) i.port
    rw [rerun]
    exact told
  | image _ _ source' => exact absurd (source.symm.trans source') nofun
  | nothing source' => exact absurd (source.symm.trans source') nofun
  | noJob source' => exact absurd (source.symm.trans source') nofun
  | job _ source' => exact absurd (source.symm.trans source') nofun
  | recovery source' => exact absurd (source.symm.trans source') nofun

theorem RefusedAs.toldLine (h : RefusedAs d code i t) (source : i.source = .write) {line : Nat} {body : LineData}
    (record : i.record = .image line body) (hw : Waits (d.host.get i.port) code (lineTest line) e) :
    Told (t.host.get i.port) code e := by
  cases h with
  | image line' body' _ record' =>
    obtain ⟨rfl, rfl⟩ : line = line' ∧ body = body' := by simpa [record] using record'
    exact told_answerLine (d := { d with claims := d.claims.undo line }) hw awake
  | nothing _ none => exact absurd record (none line body)
  | mark source' => exact absurd (source.symm.trans source') nofun
  | close reruns => exact absurd (source.symm.trans reruns.1) nofun
  | noJob source' => exact absurd (source.symm.trans source') nofun
  | job _ source' => exact absurd (source.symm.trans source') nofun
  | recovery source' => exact absurd (source.symm.trans source') nofun

variable {items : List Item} (mem : i ∈ items) {k : Nat}
include mem

theorem Device.refuseAll_toldMark (source : i.source = .marker) (found : (d.host.get i.port).markIndex = some k)
    (he : (d.host.get i.port).queue[k]? = some e) : Told ((d.refuseAll items).host.get i.port) .journalFault e :=
  Device.refuseAll_brings (P := fun a => Waits (a.host.get i.port) .journalFault markTest e)
    (Q := fun a => Told (a.host.get i.port) .journalFault e) mem (.of_markIndex found he _)
    (fun _ _ _ _ hw as => as.host (closed_waits awake ofBegun_markTest _) hw) (fun _ _ hw as => as.toldMark awake source hw)
    (fun _ _ _ _ told as => as.host (closed_told _ _ _) told)

theorem Device.refuseAll_toldLine (source : i.source = .write) {line : Nat} {body : LineData}
    (record : i.record = .image line body) (found : (d.host.get i.port).lineIndex line = some k)
    (he : (d.host.get i.port).queue[k]? = some e) : Told ((d.refuseAll items).host.get i.port) .journalFault e :=
  Device.refuseAll_brings (P := fun a => Waits (a.host.get i.port) .journalFault (lineTest line) e)
    (Q := fun a => Told (a.host.get i.port) .journalFault e) mem (.of_lineIndex found he _)
    (fun _ _ _ _ hw as => as.host (closed_waits awake (ofBegun_lineTest line) _) hw)
    (fun _ _ hw as => as.toldLine awake source record hw) (fun _ _ _ _ told as => as.host (closed_told _ _ _) told)

end

/-! ## The claims of refused writes -/

section
variable {d : Device} {items : List Item}

theorem UndoneFrom.trans {t u v : ClaimTable} (h : UndoneFrom t u) (g : UndoneFrom u v) : UndoneFrom t v := by
  intro slot
  rcases g slot with same | ⟨x, hx, changed⟩
  · rw [same]
    exact h slot
  · rcases h slot with was | ⟨c, hc, was⟩
    · exact .inr ⟨x, was ▸ hx, changed⟩
    · exact .inr ⟨c, hc, by rw [changed, (undone_line (was.symm.trans hx)).2, ← hx, was]⟩

/-- An entry whose claim change has been undone is not changed again. -/
theorem UndoneFrom.settled {t u : ClaimTable} (h : UndoneFrom t u) {slot : Fin 256} {x : Claim}
    (was : t.slots[slot] = undone x) : u.slots[slot] = undone x := by
  rcases h slot with same | ⟨c, hc, changed⟩
  · rw [same, was]
  · rw [changed, (undone_line (was.symm.trans hc)).2, ← hc, was]

theorem Device.refuseAll_claim {i : Item} (mem : i ∈ items) (source : i.source = .write) {line : Nat} {body : LineData}
    (record : i.record = .image line body) {slot : Fin 256} {x : Claim} (at' : ClaimedAt d.claims line slot x) :
    (d.refuseAll items).claims.slots[slot] = undone x :=
  Device.refuseAll_brings (P := fun a => UndoneFrom d.claims a.claims) (Q := fun a => a.claims.slots[slot] = undone x) mem
    (.refl _) (fun _ _ _ _ h as => h.trans as.claims)
    (fun a t h as => by
      cases as with
      | image line' body' _ record' =>
        obtain ⟨rfl, rfl⟩ : line = line' ∧ body = body' := by simpa [record] using record'
        exact h.undo_own at'
      | nothing _ none => exact absurd record (none line body)
      | mark source' => exact absurd (source.symm.trans source') nofun
      | close reruns => exact absurd (source.symm.trans reruns.1) nofun
      | noJob source' => exact absurd (source.symm.trans source') nofun
      | job _ source' => exact absurd (source.symm.trans source') nofun
      | recovery source' => exact absurd (source.symm.trans source') nofun)
    (fun _ _ _ _ was as => as.claims.settled was)

theorem Device.refuseAll_slot {slot : Fin 256} (other : ∀ i ∈ items, i.source = .write → ∀ line body,
    i.record = .image line body → ∀ x, d.claims.slots[slot] = some x → x.line ≠ line) :
    (d.refuseAll items).claims.slots[slot] = d.claims.slots[slot] :=
  Device.refuseAll_keeps (P := fun a => a.claims.slots[slot] = d.claims.slots[slot]) rfl fun i hi a t same as =>
    (as.slot (by rw [same]; exact other i hi)).trans same

/-- The start has failed with cause CLOSE_APPEND (R135). -/
def ClosingFailed (d : Device) : Prop :=
  d.part = .failed ∧ d.recovery.result = .failed ∧ d.recovery.cause = some .closeAppend

theorem RefusedAs.closingFailed {t : Device} {code : RespCode} {i : Item} (h : RefusedAs d code i t)
    (failed : ClosingFailed d) : ClosingFailed t := by
  cases h with
  | image => exact failed
  | nothing => exact failed
  | mark => exact failed
  | close =>
    obtain ⟨_, rerun, -⟩ := Device.rerunTimer_spec (d.answerMark i.port code) i.port
    rw [rerun]
    exact failed
  | noJob => exact failed
  | job j =>
    obtain ⟨-, -, -, -, part, -, recovery⟩ := (d.endJob_appendFailed j).rest
    rw [ClosingFailed, part, recovery]
    exact failed
  | recovery => exact ⟨Device.failRecovery_part_of_ne (by rw [failed.1]; nofun) _, rfl, rfl⟩

/-- A refused closing record of recovery fails the start (R134, R135). -/
theorem Device.refuseAll_recovery {i : Item} {rest : List Item} (source : i.source = .recovery) (part : d.part = .recovering) :
    ClosingFailed (d.refuseAll (i :: rest)) := by
  have first : d.refuseItem .journalFault i = d.failRecovery .closeAppend := by
    simp only [Device.refuseItem, source]
    rfl
  have failed : ClosingFailed (d.refuseItem .journalFault i) := by
    rw [first]
    exact ⟨Device.failRecovery_part_of_ne (by rw [part]; nofun) _, rfl, rfl⟩
  exact Device.refuseAll_keeps (items := rest) failed fun _ _ _ _ h as => as.closingFailed h

end

/-! ## The timers of refused markers -/

theorem RefusedAs.eq {d t : Device} {code : RespCode} {i : Item} (h : RefusedAs d code i t) : t = d.refuseItem code i := by
  cases h with
  | image line body source record => simp only [Device.refuseItem, source, record]
  | nothing source record =>
    cases kind : i.record with
    | image line body => exact absurd kind (record line body)
    | openScope => simp only [Device.refuseItem, source, kind]
    | close c => simp only [Device.refuseItem, source, kind]
  | mark source stays =>
    cases kind : i.record with
    | image line body => simp only [Device.refuseItem, source, kind]
    | openScope => simp only [Device.refuseItem, source, kind]
    | close c =>
      have other : i.level ≠ 1 := fun one => stays ⟨source, ⟨c, kind⟩, one⟩
      simp only [Device.refuseItem, source, kind, other, if_false]
  | close reruns =>
    obtain ⟨source, ⟨c, kind⟩, one⟩ := reruns
    simp only [Device.refuseItem, source, kind, one, if_true]
  | noJob source none => simp only [Device.refuseItem, source, Device.rollbackRefused, none]
  | job j source found => simp only [Device.refuseItem, source, Device.rollbackRefused, found]
  | recovery source =>
    simp only [Device.refuseItem, source]
    rfl

/-- A latch that is set stays set (R169). -/
theorem RefusedAs.latched {d t : Device} {code : RespCode} {i : Item} (h : RefusedAs d code i t) {n : Nat}
    (set : d.alerts.latches.getLsbD n = true) : t.alerts.latches.getLsbD n = true := by
  have grows := ((Moves.refl d).refuseItem code i).latches
  rw [← h.eq] at grows
  rw [← grows, BitVec.getLsbD_or, set, Bool.true_or]

/-- The timer of a level-1 scope of port p has run again, an expiry that was due having been latched. -/
structure HasRerun (d : Device) (p : Port) (t : Device) : Prop where
  scope : t.scope.get p = rerunScope d.part (d.forcedJob p) (d.scope.get p)
  latched : MayRun d.part (d.scope.get p) → expiryDue { d.scope.get p with running := true } = true →
    t.alerts.latches.getLsbD p.num = true

/-- The part state and the jobs of port p are as they were. -/
def SameWork (d : Device) (p : Port) (t : Device) : Prop := t.part = d.part ∧ t.jobsAt p = d.jobsAt p

section
variable {d : Device} {items : List Item} {p : Port}
  (engines : ∀ x ∈ items, x.source = .recovery ∨ x.source = .rollback → x.source = .rollback ∧ x.port ≠ p)
include engines

theorem SameWork.refused {a t : Device} (h : SameWork d p a) {x : Item} (hx : x ∈ items)
    (as : RefusedAs a .journalFault x t) : SameWork d p t := by
  refine ⟨(as.part fun source => ?_).trans h.1, (as.jobs fun source => (engines x hx (.inr source)).2).trans h.2⟩
  exact absurd ((engines x hx (.inl source)).1.symm.trans source) nofun

theorem HasRerun.refused {a t : Device} (h : HasRerun d p a) (work : SameWork d p a) {x : Item} (hx : x ∈ items)
    (as : RefusedAs a .journalFault x t) : HasRerun d p t := by
  refine ⟨?_, fun runs due => as.latched (h.latched runs due)⟩
  by_cases own : Reruns x ∧ x.port = p
  · obtain ⟨reruns, rfl⟩ := own
    rw [(as.rerun reruns).1, work.1, Device.forcedJob_eq, work.2, ← Device.forcedJob_eq, h.scope, rerunScope_idem]
  · rw [as.scope (fun source => (engines x hx (.inr source)).2) fun reruns at' => own ⟨reruns, at'⟩, h.scope]

theorem RefusedAs.hasRerun {a t : Device} {x : Item} (reruns : Reruns x) (own : x.port = p) (work : SameWork d p a)
    (scope : a.scope.get p = d.scope.get p) (as : RefusedAs a .journalFault x t) : HasRerun d p t := by
  subst own
  have forced : a.forcedJob x.port = d.forcedJob x.port := by rw [Device.forcedJob_eq, work.2, ← Device.forcedJob_eq]
  obtain ⟨own, latched⟩ := as.rerun reruns
  rw [work.1, scope] at latched
  exact ⟨by rw [own, work.1, forced, scope], latched⟩

/-- A failed level-1 CLOSE runs its timer again (R9). -/
theorem Device.refuseAll_rerun {i : Item} (mem : i ∈ items) (reruns : Reruns i) (own : i.port = p) :
    HasRerun d p (d.refuseAll items) := by
  have step (a t : Device) (x : Item) (hx : x ∈ items) (as : RefusedAs a .journalFault x t) (work : SameWork d p a)
      (h : a.scope.get p = d.scope.get p ∨ HasRerun d p a) : t.scope.get p = d.scope.get p ∨ HasRerun d p t := by
    rcases h with scope | h
    · by_cases here : Reruns x ∧ x.port = p
      · exact .inr (as.hasRerun engines here.1 here.2 work scope)
      · exact .inl ((as.scope (fun source => (engines x hx (.inr source)).2) fun reruns at' => here ⟨reruns, at'⟩).trans scope)
    · exact .inr (h.refused engines work hx as)
  have final : SameWork d p (d.refuseAll items) ∧ HasRerun d p (d.refuseAll items) :=
    Device.refuseAll_brings (P := fun a => SameWork d p a ∧ (a.scope.get p = d.scope.get p ∨ HasRerun d p a))
      (Q := fun a => SameWork d p a ∧ HasRerun d p a) mem ⟨⟨rfl, rfl⟩, .inl rfl⟩
      (fun x hx a t ⟨work, h⟩ as => ⟨work.refused engines hx as, step a t x hx as work h⟩)
      (fun a t ⟨work, h⟩ as => ⟨work.refused engines mem as, h.elim
        (fun scope => as.hasRerun engines reruns own work scope) fun h => h.refused engines work mem as⟩)
      (fun x hx a t ⟨work, h⟩ as => ⟨work.refused engines hx as, h.refused engines work hx as⟩)
  exact final.2

end

/-! ## A refused CLOSE record of a job -/

theorem RefusedAs.link {d t : Device} {code : RespCode} {i : Item} (h : RefusedAs d code i t)
    (other : i.source = .rollback → d.link.slot ≠ .working (.force i.port)) : t.link = d.link := by
  cases h with
  | image => rfl
  | nothing => rfl
  | mark => rfl
  | close =>
    obtain ⟨_, rerun, -⟩ := Device.rerunTimer_spec (d.answerMark i.port code) i.port
    rw [rerun]
    rfl
  | noJob => rfl
  | job j source found =>
    have refused := d.endJob_appendFailed j
    have port : j.port = i.port := (Device.jobOf_port found).2
    cases kind : j.kind with
    | level l => exact (refused.level l kind).1
    | all => rw [(refused.all kind).2, toldOf, port, if_neg (other source)]
  | recovery => rfl

/-- The begun MARK of the job's port in d. -/
def MarkOf (d : Device) (p : Port) (e : Entry) : Prop :=
  ∃ k, (d.host.get p).markIndex = some k ∧ (d.host.get p).queue[k]? = some e

/-- The job j of d still stands in t. -/
structure JobStands (d : Device) (j : Job) (t : Device) : Prop where
  found : t.jobOf j.port = some j
  scope : t.scope.get j.port = d.scope.get j.port
  waits : ∀ e, MarkOf d j.port e → e.withheld = false → Waits (t.host.get j.port) .journalFault markTest e
  link : d.link.slot = .working (.force j.port) → t.link = d.link

/-- The job j of d has ended append failed (R103, R13, R11, R21). -/
structure JobGone (d : Device) (j : Job) (t : Device) : Prop where
  ended : t.jobsAt j.port = []
  scope : t.scope.get j.port = { d.scope.get j.port with state := .wedged, running := false, resetNoted := false }
  latch : t.alerts.latches.getLsbD (4 + j.port.num) = true
  told : ∀ l, j.kind = .level l → ∀ e, MarkOf d j.port e → e.withheld = false → Told (t.host.get j.port) .journalFault e
  slot : j.kind = .all → d.link.slot = .working (.force j.port) →
    t.link.slot = .ready .media (forceCounts (d.scope.get j.port).stack.length j.restored)

section
variable {d a t : Device} {j : Job} {x : Item}

theorem JobStands.ends (h : JobStands d j a) : JobGone d j (a.endJob j .appendFailed) := by
  have refused := a.endJob_appendFailed j
  refine ⟨?_, ?_, ?_, fun l kind e mark awake => ?_, fun kind slot => ?_⟩
  · exact (congrArg (fun jobs : List Job => jobs.filter fun x : Job => x.port == j.port) refused.jobs).trans
      (a.dropJob_jobsAt_own j)
  · rw [refused.scope, PerPort.get_set_self, h.scope]
  · rw [refused.alerts, Device.latch_getLsbD]
    simp [latchBit]
  · rw [(refused.level l kind).2]
    exact told_answerMark (h.waits e mark awake) awake
  · rw [(refused.all kind).2, h.link slot, toldOf, if_pos slot, h.scope]

variable (markers : x.source = .marker → x.port ≠ j.port) (as : RefusedAs a .journalFault x t)
include markers as

theorem JobStands.refused (h : JobStands d j a) : JobStands d j t ∨ JobGone d j t := by
  by_cases own : x.source = .rollback ∧ x.port = j.port
  · obtain ⟨source, port⟩ := own
    have ended : t = a.endJob j .appendFailed := by
      rw [as.eq]
      simp only [Device.refuseItem, source, Device.rollbackRefused, port, h.found]
    exact .inr (ended ▸ h.ends)
  · have other : x.source = .rollback → x.port ≠ j.port := fun source port => own ⟨source, port⟩
    refine .inl ⟨?_, ?_, fun e mark awake => ?_, fun slot => ?_⟩
    · rw [Device.jobOf_eq, as.jobs other, ← Device.jobOf_eq, h.found]
    · rw [as.scope other fun reruns => markers reruns.1, h.scope]
    · exact as.host (closed_waits awake ofBegun_markTest _) (h.waits e mark awake)
    · refine (as.link fun source working => ?_).trans (h.link slot)
      rw [h.link slot, slot] at working
      injection working with work
      injection work with port
      exact other source port.symm

theorem JobGone.refused (h : JobGone d j a) : JobGone d j t := by
  by_cases own : x.source = .rollback ∧ x.port = j.port
  · obtain ⟨source, port⟩ := own
    have gone : a.jobOf x.port = none := by rw [Device.jobOf_eq, port, h.ended]; rfl
    have same : t = a := by
      rw [as.eq]
      simp only [Device.refuseItem, source, Device.rollbackRefused, gone]
    exact same ▸ h
  · have other : x.source = .rollback → x.port ≠ j.port := fun source port => own ⟨source, port⟩
    refine ⟨(as.jobs other).trans h.ended, (as.scope other fun reruns => markers reruns.1).trans h.scope, as.latched h.latch,
      fun l kind e mark awake => as.host (closed_told _ _ _) (h.told l kind e mark awake), fun kind slot => ?_⟩
    rw [as.link fun _ => by rw [h.slot kind slot]; nofun]
    exact h.slot kind slot

end

/-- A refused CLOSE record of a job ends the job (R103). -/
theorem Device.refuseAll_job {d : Device} {items : List Item} {i : Item} (mem : i ∈ items) (source : i.source = .rollback)
    {j : Job} (port : j.port = i.port) (found : d.jobOf j.port = some j)
    (markers : ∀ x ∈ items, x.source = .marker → x.port ≠ j.port) : JobGone d j (d.refuseAll items) := by
  have start : JobStands d j d :=
    ⟨found, rfl, fun e ⟨_, hk, he⟩ _ => .of_markIndex hk he _, fun _ => rfl⟩
  refine Device.refuseAll_brings (P := fun a => JobStands d j a ∨ JobGone d j a) (Q := JobGone d j) mem (.inl start)
    (fun x hx a t h as => h.elim (fun h => h.refused (markers x hx) as) fun h => .inr (h.refused (markers x hx) as))
    (fun a t h as => ?_) (fun x hx a t h as => h.refused (markers x hx) as)
  rcases h with h | h
  · have ended : t = a.endJob j .appendFailed := by
      rw [as.eq]
      simp only [Device.refuseItem, source, Device.rollbackRefused, ← port, h.found]
    exact ended ▸ h.ends
  · exact h.refused (markers i mem) as

theorem Device.jobOf_of_alone {d : Device} {j : Job} (mem : j ∈ d.rollback.jobs)
    (alone : ∀ x ∈ d.rollback.jobs, x.port = j.port → x = j) : d.jobOf j.port = some j := by
  have there : j ∈ d.jobsAt j.port := Device.mem_jobsAt.2 ⟨mem, rfl⟩
  rw [Device.jobOf_eq]
  cases jobs : d.jobsAt j.port with
  | nil => simp [jobs] at there
  | cons x rest =>
    have hx : x ∈ d.jobsAt j.port := by simp [jobs]
    obtain ⟨hx, port⟩ := Device.mem_jobsAt.1 hx
    simp [alone x hx port]

/-- Settles O35, block by block: what every refusal keeps, and what the refusal of one item brings about. -/
theorem appendWriteFails : Obligations.AppendWriteFails := by
  intro q d data o a c items told ho requester append hc
  refine (nexts_exec ..).2 ?_
  rw [effect_appendFails ho requester append hc]
  have spared : Spared (failedAccess d c).appendLost ((failedAccess d c).appendLost.refuseAll items) :=
    Device.refuseAll_spared rfl
  refine ⟨spared.journal, Device.refuseAll_latched (BitVec.or_or_and_both ..) items, spared.counters, spared.array,
    fun i hi source k e found he awake => ?_, fun i hi source line body record =>
      ⟨fun k e found he awake => ?_, fun slot x at' => ?_⟩, fun slot other => ?_, fun source part => ?_,
    fun i hi source record one engines => ?_, fun i hi source j hj port alone markers => ?_⟩
  · exact Device.refuseAll_toldMark (d := (failedAccess d c).appendLost) awake hi source found he
  · exact Device.refuseAll_toldLine (d := (failedAccess d c).appendLost) awake hi source record found he
  · exact Device.refuseAll_claim (d := (failedAccess d c).appendLost) hi source record at'
  · exact Device.refuseAll_slot (d := (failedAccess d c).appendLost) other
  · exact Device.refuseAll_recovery (d := (failedAccess d c).appendLost) source part
  · intro s rerun runs due after
    have final : HasRerun d i.port ((failedAccess d c).appendLost.refuseAll items) := by
      obtain ⟨scope, latched⟩ := Device.refuseAll_rerun (d := (failedAccess d c).appendLost) engines hi ⟨source, record, one⟩ rfl
      exact ⟨scope, latched⟩
    have due_iff : due ↔ expiryDue { s with running := true } = true := by
      rw [expiryDue_iff]
      exact ⟨fun h => ⟨rfl, h⟩, fun h => h.2⟩
    refine ⟨fun held => final.scope.trans (rerunScope_held held), fun may undue => ?_, fun may isDue =>
      ⟨final.latched may (due_iff.1 isDue), fun action => ?_, fun action running state jobs => ?_⟩⟩
    · exact final.scope.trans (rerunScope_undue may (by rwa [← Bool.not_eq_true, ← due_iff]))
    · exact final.scope.trans (rerunScope_alert may (due_iff.1 isDue) action)
    · refine final.scope.trans ((rerunScope_abandon may (due_iff.1 isDue) action).trans (if_pos ⟨running, state, ?_⟩))
      exact (d.forcedJob_eq_false_iff i.port).2 jobs
  · have found : d.jobOf j.port = some j := Device.jobOf_of_alone hj alone
    have gone : JobGone (failedAccess d c).appendLost j ((failedAccess d c).appendLost.refuseAll items) :=
      Device.refuseAll_job hi source port found markers
    exact ⟨Device.jobsAt_eq_nil_iff.1 gone.ended, gone.scope, gone.latch,
      fun l k e kind hk he awake => gone.told l kind e ⟨k, hk, he⟩ awake, gone.slot⟩

end Sys2Proof.Machine

/-!
PWRWARN drops the work that waits (O10).
-/
namespace Sys2Proof.Machine

-- One proof at a time: each would otherwise hold a thread of its own.
set_option Elab.async false

/-! ## What the stop leaves as it was -/

/-- What entering STOPPING leaves once the timers have stopped: all but the requests, the jobs and the recovery engine; no
job joins. -/
structure Stopped (d t : Device) : Prop where
  part : t.part = d.part
  scope : t.scope = d.scope
  claims : t.claims = d.claims
  journal : t.journal = d.journal
  anchor : t.anchor = d.anchor
  array : t.array = d.array
  regions : t.regions = d.regions
  link : t.link = d.link
  alerts : t.alerts = d.alerts
  counters : t.counters = d.counters
  jobs : ∀ x ∈ t.rollback.jobs, x ∈ d.rollback.jobs

theorem Stopped.refl (d : Device) : Stopped d d := ⟨rfl, rfl, rfl, rfl, rfl, rfl, rfl, rfl, rfl, rfl, fun _ h => h⟩

theorem Stopped.trans {a b c : Device} (h : Stopped a b) (g : Stopped b c) : Stopped a c :=
  ⟨g.part.trans h.part, g.scope.trans h.scope, g.claims.trans h.claims, g.journal.trans h.journal, g.anchor.trans h.anchor,
    g.array.trans h.array, g.regions.trans h.regions, g.link.trans h.link, g.alerts.trans h.alerts,
    g.counters.trans h.counters, fun x hx => h.jobs x (g.jobs x hx)⟩

/-- What a port keeps as requests are answered HALTED and queues are halted. -/
structure Halts (P : HostPort → Prop) : Prop where
  closed : Closed .halted P
  queue : ∀ h, P h → P h.haltQueue

theorem halts_told (e : Entry) : Halts fun h => Told h .halted e :=
  ⟨closed_told _ _ _, fun _ told => List.mem_append_left _ told⟩

theorem halts_waits {e : Entry} (awake : e.withheld = false) {test : Entry → Bool} (begun : OfBegun test) :
    Halts fun h => Waits h .halted test e := by
  refine ⟨closed_waits awake begun _, fun h hw => ?_⟩
  rcases hw with told | ⟨k, first⟩
  · exact .inl (List.mem_append_left _ told)
  · refine .inr ⟨k, first.map (if_neg fun waiting => ?_) fun x => ?_⟩
    · have meets := first.2.1
      rw [begun e (by rw [waiting]; rfl)] at meets
      cases meets
    · by_cases waiting : x.stage = .waiting
      · rw [if_pos waiting, begun x (by rw [waiting]; rfl), begun _ rfl]
      · rw [if_neg waiting]

/-! ## A job is stopped -/

theorem Device.endJob_stopped (d : Device) (j : Job) : Stopped d (d.endJob j .stopped) ∧
    (d.endJob j .stopped).rollback = (d.dropJob j).rollback := by
  have fewer : ∀ x ∈ (d.dropJob j).rollback.jobs, x ∈ d.rollback.jobs := fun x hx => (List.mem_filter.1 hx).1
  cases kind : j.kind with
  | level l =>
    rw [Device.endJob_level_stopped kind]
    exact ⟨⟨rfl, rfl, rfl, rfl, rfl, rfl, rfl, rfl, rfl, rfl, fewer⟩, rfl⟩
  | all =>
    rw [Device.endJob_all_stopped kind]
    exact ⟨⟨rfl, rfl, rfl, rfl, rfl, rfl, rfl, rfl, rfl, rfl, fewer⟩, rfl⟩

theorem Device.endJob_stopped_jobsAt (d : Device) (j : Job) : (d.endJob j .stopped).jobsAt j.port = [] := by
  rw [Device.jobsAt, (d.endJob_stopped j).2]
  exact d.dropJob_jobsAt_own j

theorem Halts.endJob {P : HostPort → Prop} (halts : Halts P) {d : Device} {p : Port} (h : P (d.host.get p)) (j : Job) :
    P ((d.endJob j .stopped).host.get p) := by
  cases kind : j.kind with
  | level l =>
    rw [Device.endJob_level_stopped kind]
    exact halts.closed.answerMark (d := d.dropJob j) h j.port
  | all =>
    rw [Device.endJob_all_stopped kind]
    exact h

/-- The item of an engine is dropped: its job is stopped, or nothing is left but the phase of recovery (R63). -/
inductive DroppedAs (d : Device) (i : Item) : Device → Prop where
  | job (j : Job) (source : i.source = .rollback) (found : d.jobOf i.port = some j) : DroppedAs d i (d.endJob j .stopped)
  | noJob (source : i.source = .rollback) (none : d.jobOf i.port = none) : DroppedAs d i d
  | recovery (source : i.source = .recovery) : DroppedAs d i (d.onRecovery fun r => { r with phase := .idle })

theorem Device.dropItem_as (d : Device) {i : Item} (dropped : droppedAtStop i = true) : DroppedAs d i (d.dropItem i) := by
  cases source : i.source with
  | rollback =>
    simp only [Device.dropItem, source, Device.rollbackDropped]
    split
    · next none => exact .noJob source none
    · next j found => exact .job j source found
  | recovery =>
    simp only [Device.dropItem, source]
    exact .recovery source
  | write => simp [droppedAtStop, source] at dropped
  | marker => simp [droppedAtStop, source] at dropped

/-! ## A job from its first to its last -/

/-- The job j of d stands in t, or its host ABANDON has been answered HALTED. -/
structure JobStops (d : Device) (j : Job) (t : Device) : Prop where
  alone : ∀ x ∈ t.rollback.jobs, x.port = j.port → x = j
  waits : ∀ e, MarkOf d j.port e → e.withheld = false → Waits (t.host.get j.port) .halted markTest e
  told : (∃ x ∈ t.rollback.jobs, x.port = j.port) ∨
    ∀ l, j.kind = .level l → ∀ e, MarkOf d j.port e → e.withheld = false → Told (t.host.get j.port) .halted e

section
variable {d a : Device} {j : Job} (h : JobStops d j a)
include h

theorem JobStops.endJob {x : Job} (own : x.port = j.port → x = j) : JobStops d j (a.endJob x .stopped) := by
  obtain ⟨stopped, rollback⟩ := a.endJob_stopped x
  refine ⟨fun y hy => h.alone y (stopped.jobs y hy),
    fun e mark awake => (halts_waits awake ofBegun_markTest).endJob (h.waits e mark awake) x, ?_⟩
  by_cases port : x.port = j.port
  · obtain rfl := own port
    refine .inr fun l kind e mark awake => ?_
    rw [Device.endJob_level_stopped kind]
    exact told_answerMark (d := a.dropJob x) (h.waits e mark awake) awake
  · refine h.told.imp (fun ⟨y, hy, at'⟩ => ⟨y, ?_, at'⟩)
      fun told l kind e mark awake => (halts_told e).endJob (told l kind e mark awake) x
    rw [rollback]
    exact List.mem_filter.2 ⟨hy, by simp [at', Ne.symm port]⟩

theorem JobStops.haltQueue (r : Port) : JobStops d j (a.onHost r HostPort.haltQueue) := by
  have kept {P : HostPort → Prop} (halts : Halts P) (hp : P (a.host.get j.port)) :
      P ((a.onHost r HostPort.haltQueue).host.get j.port) := by
    by_cases own : j.port = r
    · rw [← own, Device.onHost_host, PerPort.get_set_self]
      exact halts.queue _ hp
    · rwa [Device.onHost_host, PerPort.get_set_of_ne _ _ own]
  exact ⟨h.alone, fun e mark awake => kept (halts_waits awake ofBegun_markTest) (h.waits e mark awake),
    h.told.imp id fun told l kind e mark awake => kept (halts_told e) (told l kind e mark awake)⟩

theorem JobStops.dropItem {i : Item} (dropped : droppedAtStop i = true) : JobStops d j (a.dropItem i) := by
  have as := a.dropItem_as dropped
  generalize a.dropItem i = t at as
  cases as with
  | job x _ found => exact h.endJob (h.alone x (Device.jobOf_port found).1)
  | noJob => exact h
  | recovery => exact ⟨h.alone, h.waits, h.told⟩

end

/-! ## The stages of the stop -/

theorem Device.onHost_stopped (d : Device) (p : Port) (f : HostPort → HostPort) : Stopped d (d.onHost p f) :=
  ⟨rfl, rfl, rfl, rfl, rfl, rfl, rfl, rfl, rfl, rfl, fun _ h => h⟩

theorem Device.dropItem_stopped (d : Device) {i : Item} (dropped : droppedAtStop i = true) : Stopped d (d.dropItem i) := by
  have as := d.dropItem_as dropped
  generalize d.dropItem i = t at as
  cases as with
  | job x => exact (d.endJob_stopped x).1
  | noJob => exact .refl d
  | recovery => exact ⟨rfl, rfl, rfl, rfl, rfl, rfl, rfl, rfl, rfl, rfl, fun _ h => h⟩

theorem Halts.dropItem {P : HostPort → Prop} (halts : Halts P) {d : Device} {p : Port} (h : P (d.host.get p)) {i : Item}
    (dropped : droppedAtStop i = true) : P ((d.dropItem i).host.get p) := by
  have as := d.dropItem_as dropped
  generalize d.dropItem i = t at as
  cases as with
  | job x => exact halts.endJob h x
  | noJob => exact h
  | recovery => exact h

/-- The queue without the items of the engines, the hold with its item (R63). -/
def Device.queueKept (d : Device) : Device :=
  let j := d.journal
  let held := match j.queue with
    | [] => none
    | i :: _ => if droppedAtStop i then none else j.held
  { d with journal := { j with queue := j.queue.filter fun i => !droppedAtStop i, held := held } }

/-- The stop from where the held item has been dealt with: engines' items, waiting jobs, the queues of the ports. -/
def Device.stopRest (d : Device) : Device := d.dropItems.stopJobs.haltQueues

/-- What each step of the rest of the stop keeps, the rest keeps. -/
theorem Device.stopRest_keeps {P : Device → Prop} {d : Device} (start : P d.queueKept)
    (drop : ∀ a i, P a → droppedAtStop i = true → P (a.dropItem i))
    (stop : ∀ b a x, P b → x ∈ b.rollback.jobs → P a → P (a.endJob x .stopped))
    (halt : ∀ a r, P a → P (a.onHost r HostPort.haltQueue)) : P d.stopRest := by
  have dropped : P d.dropItems := List.foldlRecOn _ _ start fun a ha i hi => drop a i ha (List.mem_filter.1 hi).2
  have stopped : P d.dropItems.stopJobs :=
    List.foldlRecOn _ _ dropped fun a ha x hx => stop _ a x dropped (List.mem_filter.1 hx).1 ha
  exact halt _ _ (halt _ _ stopped)

theorem Device.stopRest_stopped (d : Device) : Stopped d.queueKept d.stopRest :=
  Device.stopRest_keeps (P := Stopped d.queueKept) (.refl _) (fun _ _ h dropped => h.trans (Device.dropItem_stopped _ dropped))
    (fun _ _ _ _ _ h => h.trans (Device.endJob_stopped _ _).1) fun _ _ h => h.trans (Device.onHost_stopped ..)

theorem Device.stopRest_journal (d : Device) : d.stopRest.journal = d.queueKept.journal := d.stopRest_stopped.journal

theorem Device.stopRest_items (d : Device) : d.stopRest.journal.queue = d.journal.queue.filter fun i => !droppedAtStop i := by
  rw [d.stopRest_journal]
  rfl

theorem Device.stopRest_held {d : Device} (unheld : d.journal.held = none) : d.stopRest.journal.held = none := by
  rw [d.stopRest_journal, Device.queueKept]
  dsimp only
  split
  · rfl
  · rw [unheld, ite_self]

theorem Halts.stopRest {P : HostPort → Prop} (halts : Halts P) {d : Device} {p : Port} (h : P (d.host.get p)) :
    P (d.stopRest.host.get p) := by
  refine Device.stopRest_keeps (P := fun a => P (a.host.get p)) h (fun _ _ h dropped => halts.dropItem h dropped)
    (fun _ _ _ _ _ h => halts.endJob h _) fun a r h => ?_
  by_cases own : p = r
  · rw [own, Device.onHost_host, PerPort.get_set_self, ← own]
    exact halts.queue _ h
  · rwa [Device.onHost_host, PerPort.get_set_of_ne _ _ own]

theorem JobStops.stopRest {d a : Device} {j : Job} (h : JobStops d j a) : JobStops d j a.stopRest :=
  Device.stopRest_keeps (P := JobStops d j) ⟨h.alone, h.waits, h.told⟩ (fun _ _ h dropped => h.dropItem dropped)
    (fun _ _ x hb hx ha => ha.endJob (hb.alone x hx)) fun _ r h => h.haltQueue r

theorem Stopped.jobsAt_nil {d t : Device} (h : Stopped d t) {p : Port} (none : d.jobsAt p = []) : t.jobsAt p = [] :=
  Device.jobsAt_eq_nil_iff.2 fun x hx => Device.jobsAt_eq_nil_iff.1 none x (h.jobs x hx)

/-- No job waits (R109). -/
theorem Device.stopRest_waiting (d : Device) : ∀ x ∈ d.stopRest.rollback.jobs, x.phase ≠ .waiting := by
  intro x hx waiting
  have fewer : Stopped d.dropItems d.dropItems.stopJobs :=
    List.foldlRecOn _ _ (Stopped.refl _) fun a ha y _ => ha.trans (a.endJob_stopped y).1
  have listed : x ∈ d.dropItems.rollback.jobs.filter fun j => j.phase == .waiting :=
    List.mem_filter.2 ⟨fewer.jobs x hx, by simp [waiting]⟩
  have none : d.dropItems.stopJobs.jobsAt x.port = [] :=
    List.foldl_establishes (keeps := fun _ : Device => True) (brings := fun a : Device => a.jobsAt x.port = []) listed (fun _ _ _ _ => trivial)
      (fun a _ => a.endJob_stopped_jobsAt x) (fun y _ a h => (a.endJob_stopped y).1.jobsAt_nil h) trivial
  exact Device.jobsAt_eq_nil_iff.1 none x hx rfl

/-- No job is left whose CLOSE item was not taken (R63, R103). -/
theorem Device.stopRest_jobsAt {d : Device} {i : Item} (hi : i ∈ d.journal.queue) (source : i.source = .rollback) :
    d.stopRest.jobsAt i.port = [] := by
  have listed : i ∈ d.journal.queue.filter droppedAtStop := List.mem_filter.2 ⟨hi, by simp [droppedAtStop, source]⟩
  have none : d.dropItems.jobsAt i.port = [] := by
    refine List.foldl_establishes (keeps := fun _ : Device => True) (brings := fun a : Device => a.jobsAt i.port = []) listed
      (fun _ _ _ _ => trivial) (fun a _ => ?_)
      (fun y hy a h => (a.dropItem_stopped (List.mem_filter.1 hy).2).jobsAt_nil h) trivial
    have as := a.dropItem_as (i := i) (by simp [droppedAtStop, source])
    generalize a.dropItem i = t at as
    cases as with
    | job x _ found => exact (Device.jobOf_port found).2 ▸ a.endJob_stopped_jobsAt x
    | noJob _ none => exact Device.jobsAt_eq_nil_iff.2 ((a.jobOf_eq_none_iff i.port).1 none)
    | recovery source' => exact absurd (source.symm.trans source') nofun
  have rest : Stopped d.dropItems d.stopRest :=
    (List.foldlRecOn _ _ (Stopped.refl _) fun a ha y _ => ha.trans (a.endJob_stopped y).1 :
      Stopped d.dropItems d.dropItems.stopJobs).trans ((Device.onHost_stopped ..).trans (Device.onHost_stopped ..))
  exact rest.jobsAt_nil none

/-- No request waits (R141). -/
theorem Device.stopRest_queue (d : Device) (p : Port) : ∀ e ∈ (d.stopRest.host.get p).queue, e.stage ≠ .waiting := by
  have halted (h : HostPort) : ∀ e ∈ h.haltQueue.queue, e.stage ≠ .waiting := by
    intro e he
    obtain ⟨x, -, rfl⟩ := List.mem_map.1 he
    by_cases waiting : x.stage = .waiting <;> simp [waiting]
  cases p
  · exact halted d.dropItems.stopJobs.host.p0
  · exact halted d.dropItems.stopJobs.host.p1

/-! ## The start of the stop -/

/-- The part as it enters STOPPING, its timers stopped (R140, R22). -/
def Device.stopBegun (d : Device) : Device := Device.stopTimers { d with part := .stopping, choice := d.choice + 2 }

/-- The queues of the ports whose halt comes first (log entry 7). -/
def Device.haltFirst (d : Device) (first0 first1 : Bool) : Device :=
  let d := if first0 then d.onHost .p0 HostPort.haltQueue else d
  if first1 then d.onHost .p1 HostPort.haltQueue else d

theorem Device.enterStopping_stages (d : Device) : ∃ first0 first1,
    d.enterStopping = ((d.stopBegun.haltFirst first0 first1).refuseHeld).stopRest := ⟨_, _, rfl⟩

theorem Device.haltFirst_keeps {P : Device → Prop} {d : Device} (h : P d)
    (halt : ∀ a r, P a → P (a.onHost r HostPort.haltQueue)) (first0 first1 : Bool) : P (d.haltFirst first0 first1) := by
  have one : P (if first0 then d.onHost .p0 HostPort.haltQueue else d) := by
    split
    · exact halt _ _ h
    · exact h
  unfold Device.haltFirst
  dsimp only
  split
  · exact halt _ _ one
  · exact one

/-! ## The held item -/

/-- An item of a write or a marker refused in STOPPING changes the requests and the claims alone. -/
theorem RefusedAs.stopping {d t : Device} {code : RespCode} {i : Item} (h : RefusedAs d code i t) (part : d.part = .stopping)
    (kept : droppedAtStop i = false) : t = { d with host := t.host, claims := t.claims } := by
  cases h with
  | image => rfl
  | nothing => rfl
  | mark => rfl
  | close =>
    have held : ¬MayRun (d.answerMark i.port code).part ((d.answerMark i.port code).scope.get i.port) := fun h => h.2 part
    rw [Device.rerunTimer_held held, Device.rerun, rerunScope_held held, PerPort.set_get]
    rfl
  | noJob source => simp [droppedAtStop, source] at kept
  | job _ source => simp [droppedAtStop, source] at kept
  | recovery source => simp [droppedAtStop, source] at kept

theorem RefusedAs.claims_of_marker {d t : Device} {code : RespCode} {i : Item} (h : RefusedAs d code i t)
    (source : i.source = .marker) : t.claims = d.claims := by
  cases h with
  | mark => rfl
  | close =>
    obtain ⟨_, rerun, -⟩ := Device.rerunTimer_spec (d.answerMark i.port code) i.port
    rw [rerun]
    rfl
  | image _ _ source' => exact absurd (source.symm.trans source') nofun
  | nothing source' => exact absurd (source.symm.trans source') nofun
  | noJob source' => exact absurd (source.symm.trans source') nofun
  | job _ source' => exact absurd (source.symm.trans source') nofun
  | recovery source' => exact absurd (source.symm.trans source') nofun

theorem RefusedAs.claims_of_write {d t : Device} {code : RespCode} {i : Item} (h : RefusedAs d code i t)
    (source : i.source = .write) {line : Nat} {body : LineData} (record : i.record = .image line body) :
    t.claims = d.claims.undo line := by
  cases h with
  | image line' body' _ record' =>
    obtain ⟨rfl, rfl⟩ : line = line' ∧ body = body' := by simpa [record] using record'
    rfl
  | nothing _ none => exact absurd record (none line body)
  | mark source' => exact absurd (source.symm.trans source') nofun
  | close reruns => exact absurd (source.symm.trans reruns.1) nofun
  | noJob source' => exact absurd (source.symm.trans source') nofun
  | job _ source' => exact absurd (source.symm.trans source') nofun
  | recovery source' => exact absurd (source.symm.trans source') nofun

theorem Device.refuseHeld_none {d : Device} (h : ∀ i behind, d.journal.queue = i :: behind →
    ¬(d.journal.held = some .request ∧ d.anchor.writerReq = .pending ∧ droppedAtStop i = false)) : d.refuseHeld = d := by
  unfold Device.refuseHeld
  split
  · rfl
  · next i behind queue => exact if_neg (h i behind queue)

theorem Device.refuseHeld_some {d : Device} {i : Item} {behind : List Item} (queue : d.journal.queue = i :: behind)
    (held : d.journal.held = some .request) (writer : d.anchor.writerReq = .pending) (kept : droppedAtStop i = false) :
    RefusedAs { d with journal := { d.journal with queue := behind, held := none } } .halted i d.refuseHeld := by
  have refused : d.refuseHeld =
      Device.refuseItem { d with journal := { d.journal with queue := behind, held := none } } .halted i := by
    unfold Device.refuseHeld
    simp only [queue]
    exact if_pos ⟨held, writer, kept⟩
  rw [refused]
  exact Device.refuseItem_as ..

/-! ## The stop as a whole -/

/-- The part e, before its held item is dealt with, in the stop of d. -/
structure StopStart (d e : Device) : Prop where
  frame : Stopped d.stopBegun e
  rollback : e.rollback = d.rollback
  host : ∀ P, Halts P → ∀ p, P (d.host.get p) → P (e.host.get p)

theorem Device.enterStopping_from (d : Device) : ∃ e, StopStart d e ∧ d.enterStopping = e.refuseHeld.stopRest := by
  obtain ⟨first0, first1, stages⟩ := d.enterStopping_stages
  refine ⟨_, Device.haltFirst_keeps (P := StopStart d) ⟨.refl _, rfl, fun P _ p h => ?_⟩ (fun a r h => ?_) first0 first1, stages⟩
  · exact h
  · refine ⟨h.frame.trans (a.onHost_stopped r _), h.rollback, fun P halts p hp => ?_⟩
    have kept := h.host P halts p hp
    by_cases own : p = r
    · rw [own, Device.onHost_host, PerPort.get_set_self, ← own]
      exact halts.queue _ kept
    · rwa [Device.onHost_host, PerPort.get_set_of_ne _ _ own]

/-- The front item is held for an update that has not begun, and is of a write or a marker (R63). -/
structure HeldFront (d : Device) (i : Item) (behind : List Item) : Prop where
  queue : d.journal.queue = i :: behind
  held : d.journal.held = some .request
  writer : d.anchor.writerReq = .pending
  kept : droppedAtStop i = false

/-- What the refusal of the held item changes: requests, claims, and the journal writer's queue. -/
structure HeldRefused (d t : Device) : Prop where
  only : t = { d with
    host := t.host
    claims := t.claims
    journal := { d.journal with queue := t.journal.queue, held := t.journal.held } }
  engines : ∀ x ∈ d.journal.queue, droppedAtStop x = true → x ∈ t.journal.queue
  host : ∀ P, Halts P → ∀ p, P (d.host.get p) → P (t.host.get p)

theorem HeldFront.refused {d : Device} {i : Item} {behind : List Item} (h : HeldFront d i behind) :
    RefusedAs { d with journal := { d.journal with queue := behind, held := none } } .halted i d.refuseHeld :=
  Device.refuseHeld_some h.queue h.held h.writer h.kept

theorem HeldFront.eq {d : Device} {i : Item} {behind : List Item} (h : HeldFront d i behind) (part : d.part = .stopping) :
    d.refuseHeld = { d with
      host := d.refuseHeld.host
      claims := d.refuseHeld.claims
      journal := { d.journal with queue := behind, held := none } } :=
  h.refused.stopping part h.kept

theorem HeldFront.host {d : Device} {i : Item} {behind : List Item} (h : HeldFront d i behind) {P : HostPort → Prop}
    (closed : Closed .halted P) {p : Port} (hp : P (d.host.get p)) : P (d.refuseHeld.host.get p) :=
  h.refused.host_of (fun source => absurd h.kept (by simp [droppedAtStop, source])) closed hp

theorem Device.refuseHeld_of_not {d : Device} (h : ¬∃ i behind, HeldFront d i behind) : d.refuseHeld = d :=
  Device.refuseHeld_none fun i behind queue ⟨held, writer, kept⟩ => h ⟨i, behind, queue, held, writer, kept⟩

theorem Device.refuseHeld_refused {d : Device} (part : d.part = .stopping) : HeldRefused d d.refuseHeld := by
  by_cases front : ∃ i behind, HeldFront d i behind
  · obtain ⟨i, behind, front⟩ := front
    have eq := front.eq part
    have queue : d.refuseHeld.journal.queue = behind := by rw [eq]
    refine ⟨?_, fun x hx dropped => ?_, fun P halts p => front.host halts.closed⟩
    · have held : d.refuseHeld.journal.held = none := by rw [eq]
      rw [queue, held]
      exact eq
    · rw [front.queue] at hx
      rcases List.mem_cons.1 hx with rfl | hx
      · rw [front.kept] at dropped
        cases dropped
      · rwa [queue]
  · rw [Device.refuseHeld_of_not front]
    exact ⟨rfl, fun _ hx _ => hx, fun _ _ _ h => h⟩

theorem stopItem_iff (i : Item) : (!droppedAtStop i) = (i.source == .write || i.source == .marker) := by
  cases source : i.source <;> simp [droppedAtStop, source]

section
variable {d e : Device} (start : StopStart d e)
include start

theorem StopStart.part : e.part = .stopping := start.frame.part

theorem StopStart.jobStops {j : Job} (hj : j ∈ d.rollback.jobs) (alone : ∀ x ∈ d.rollback.jobs, x.port = j.port → x = j) :
    JobStops d j e.refuseHeld.stopRest := by
  have held := Device.refuseHeld_refused start.part
  have jobs : e.refuseHeld.rollback = d.rollback := by rw [held.only]; exact start.rollback
  refine JobStops.stopRest ⟨jobs ▸ alone, fun e ⟨_, hk, he⟩ awake => ?_, .inl ⟨j, jobs ▸ hj, rfl⟩⟩
  have halts := halts_waits awake ofBegun_markTest
  exact held.host _ halts _ (start.host _ halts _ (.of_markIndex hk he _))

/-- A job that waited, or whose CLOSE item was not taken, is no longer there (R109). -/
theorem StopStart.job_gone {j : Job} (hj : j ∈ d.rollback.jobs) (alone : ∀ x ∈ d.rollback.jobs, x.port = j.port → x = j)
    (stops : j.phase = .waiting ∨ ∃ i ∈ d.journal.queue, i.source = .rollback ∧ i.port = j.port) :
    ∀ x ∈ e.refuseHeld.stopRest.rollback.jobs, x.port ≠ j.port := by
  intro x hx port
  rcases stops with waiting | ⟨i, hi, source, at'⟩
  · exact Device.stopRest_waiting _ x hx ((start.jobStops hj alone).alone x hx port ▸ waiting)
  · have listed : i ∈ e.refuseHeld.journal.queue :=
      (Device.refuseHeld_refused start.part).engines i (start.frame.journal ▸ hi) (by simp [droppedAtStop, source])
    exact Device.jobsAt_eq_nil_iff.1 (Device.stopRest_jobsAt listed source) x hx (port.trans at'.symm)

theorem StopStart.job_told {j : Job} (hj : j ∈ d.rollback.jobs) (alone : ∀ x ∈ d.rollback.jobs, x.port = j.port → x = j)
    (stops : j.phase = .waiting ∨ ∃ i ∈ d.journal.queue, i.source = .rollback ∧ i.port = j.port) {l : Nat}
    (kind : j.kind = .level l) {x : Entry} (mark : MarkOf d j.port x) (awake : x.withheld = false) :
    Told (e.refuseHeld.stopRest.host.get j.port) .halted x :=
  (start.jobStops hj alone).told.resolve_left (fun ⟨y, hy, port⟩ => start.job_gone hj alone stops y hy port)
    l kind x mark awake

theorem StopStart.front {i : Item} {behind : List Item} (queue : d.journal.queue = i :: behind)
    (held : d.journal.held = some .request) (writer : d.anchor.writerReq = .pending) (kept : droppedAtStop i = false) :
    HeldFront e i behind :=
  ⟨start.frame.journal ▸ queue, start.frame.journal ▸ held, start.frame.anchor ▸ writer, kept⟩

theorem StopStart.unheld (none : ∀ i behind, d.journal.queue = i :: behind →
    ¬((d.journal.held = some .request ∧ d.anchor.writerReq = .pending) ∧ droppedAtStop i = false)) : e.refuseHeld = e := by
  refine Device.refuseHeld_of_not fun ⟨i, behind, front⟩ => ?_
  have journal : e.journal = d.journal := start.frame.journal
  have anchor : e.anchor = d.anchor := start.frame.anchor
  exact none i behind (journal ▸ front.queue) ⟨⟨journal ▸ front.held, anchor ▸ front.writer⟩, front.kept⟩

/-- The journal's pointers, and all of its record but the queue and the hold. -/
theorem StopStart.journal : e.refuseHeld.stopRest.journal = { d.journal with
    queue := e.refuseHeld.stopRest.journal.queue
    held := e.refuseHeld.stopRest.journal.held } := by
  rw [Device.stopRest_journal]
  simp only [Device.queueKept]
  rw [(Device.refuseHeld_refused start.part).only, start.frame.journal]
  rfl

/-- What neither the stop of the timers nor any later stage changes. -/
theorem StopStart.field {α : Type} (f : Device → α) (rest : f e.refuseHeld.stopRest = f e.refuseHeld)
    (item : f { e with
      host := e.refuseHeld.host
      claims := e.refuseHeld.claims
      journal := { e.journal with queue := e.refuseHeld.journal.queue, held := e.refuseHeld.journal.held } } = f e)
    (first : f e = f d.stopBegun) : f e.refuseHeld.stopRest = f d.stopBegun :=
  (rest.trans ((congrArg f (Device.refuseHeld_refused start.part).only).trans item)).trans first

section
variable {i : Item} {behind : List Item} (front : HeldFront e i behind) {k : Nat} {x : Entry} (awake : x.withheld = false)
include front

theorem StopStart.claims_of_marker (marker : i.source = .marker) : e.refuseHeld.stopRest.claims = d.claims :=
  (Device.stopRest_stopped _).claims.trans ((front.refused.claims_of_marker marker).trans start.frame.claims)

theorem StopStart.slots_of_write (write : i.source = .write) {line : Nat} {body : LineData}
    (record : i.record = .image line body) {slot : Fin 256} {c : Claim} (at' : ClaimedAt d.claims line slot c) :
    e.refuseHeld.stopRest.claims.slots = d.claims.slots.set slot (undone c) := by
  have undo : e.refuseHeld.stopRest.claims = e.claims.undo line :=
    (Device.stopRest_stopped _).claims.trans (front.refused.claims_of_write write record)
  rw [undo, start.frame.claims]
  exact congrArg (·.slots) (ClaimTable.undo_eq at')

include awake

theorem StopStart.told_marker (marker : i.source = .marker) (found : (d.host.get i.port).markIndex = some k)
    (hx : (d.host.get i.port).queue[k]? = some x) : Told (e.refuseHeld.stopRest.host.get i.port) .halted x :=
  have halts := halts_waits awake ofBegun_markTest
  (halts_told x).stopRest (front.refused.toldMark awake marker (start.host _ halts _ (.of_markIndex found hx _)))

theorem StopStart.told_write (write : i.source = .write) {line : Nat} {body : LineData} (record : i.record = .image line body)
    (found : (d.host.get i.port).lineIndex line = some k) (hx : (d.host.get i.port).queue[k]? = some x) :
    Told (e.refuseHeld.stopRest.host.get i.port) .halted x :=
  have halts := halts_waits awake (ofBegun_lineTest line)
  (halts_told x).stopRest (front.refused.toldLine awake write record (start.host _ halts _ (.of_lineIndex found hx _)))

end

end

/-- Settles O10: the stop in stages, what halting and dropping keep at each (`Stopped`, `Halts`, `JobStops`), with the
held item refused as the writer refuses an item. -/
theorem warningDropsWaitingWork : Obligations.WarningDropsWaitingWork := by
  intro q d prst pwrwarn safe stopping kept refused halted
  refine (nexts_exec ..).2 ?_
  obtain ⟨e, start, ended⟩ := Device.enterStopping_from { d with pwrwarn := true }
  have after : effect .pwrwarnAssert d = e.refuseHeld.stopRest :=
    ((if_neg (by simp [pwrwarn])).trans ((if_neg (by simp [prst])).trans (if_neg (by simp [safe, stopping])))).trans ended
  dsimp only
  rw [after]
  have rest := e.refuseHeld.stopRest_stopped
  have frame := start.frame
  have items : e.refuseHeld.stopRest.journal.queue = e.refuseHeld.journal.queue.filter kept :=
    e.refuseHeld.stopRest_items.trans (congrArg (List.filter · _) (funext stopItem_iff))
  refine ⟨start.field Device.part rest.part rfl frame.part, e.refuseHeld.stopRest_waiting, fun i hi => ?_,
    e.refuseHeld.stopRest_queue, fun p => ?_, start.field Device.array rest.array rfl frame.array,
    start.field Device.anchor rest.anchor rfl frame.anchor, start.field Device.regions rest.regions rfl frame.regions,
    start.field Device.alerts rest.alerts rfl frame.alerts, start.field Device.counters rest.counters rfl frame.counters,
    start.field Device.link rest.link rfl frame.link, congrArg (·.head) start.journal, congrArg (·.nextSeq) start.journal,
    congrArg (·.tail) start.journal, congrArg (·.treeStart) start.journal, congrArg (·.append) start.journal,
    fun unheld => ?_, fun i behind ⟨request, writer⟩ queue keeps => ?_, fun j hj alone stops =>
    ⟨start.job_gone hj alone stops, fun l k x kind hk hx awake => start.job_told hj alone stops kind ⟨k, hk, hx⟩ awake⟩⟩
  · rw [items] at hi
    simpa [kept] using (List.mem_filter.1 hi).2
  · rw [start.field Device.scope rest.scope rfl frame.scope]
    cases p <;> rfl
  · have none : e.refuseHeld = e := start.unheld fun i behind queue ⟨request, spared⟩ =>
      unheld i behind queue ⟨request, (stopItem_iff i).symm.trans (by simp [spared])⟩
    refine ⟨?_, rest.claims.trans ((congrArg Device.claims none).trans frame.claims)⟩
    rw [items, none, frame.journal]
    rfl
  · have front : HeldFront e i behind :=
      start.front queue request writer (by simpa using (stopItem_iff i).trans keeps)
    have journal := congrArg Device.journal (front.eq start.part)
    exact ⟨items.trans (congrArg (fun j : Journal => j.queue.filter kept) journal),
      Device.stopRest_held (congrArg (·.held) journal),
      fun marker => ⟨start.claims_of_marker front marker, fun k x hk hx awake => start.told_marker front awake marker hk hx⟩,
      fun write line body record => ⟨fun k x hk hx awake => start.told_write front awake write record hk hx,
        fun slot x at' => start.slots_of_write front write record at'⟩⟩

end Sys2Proof.Machine
